-- ==== Sys2Proof/Word.lean ====
section
/-! DEFINITION. The words of the block's three encodings (spec/30_encoding.md R90 to R94) and the alphabet of its
environment: what the transport answers (R93) and what can happen to the block between two of its steps (R270). -/

namespace Sys2Proof

/-- A byte of the bus (R10: each byte read is an integer in 0..255). -/
abbrev Byte := BitVec 8

/-- One word of one of the three formats of R90. -/
inductive Word where
  /-- Format HOST (R94): the command word `HCMD`, bits 4:2 = `cmd`, bits 1:0 = `mode`. -/
  | host (w : BitVec 5)
  /-- Format CTRL (R91): the byte written to CONTROL, bits 7:6 = `OSS`, bits 5:0 = `CMD6`. -/
  | ctrl (b : Byte)
  /-- Format BUS (R93): a read, keyed by the 10-bit value `len[1:0], reg[7:0]` of the opcode table. -/
  | bus (key : BitVec 10)
  deriving DecidableEq, Repr

/-- The answer of the transport to the transaction in progress (R62, R93): it fails, or it returns. A read of length `n`
takes the first `n` of the three bytes; a write takes none. R75: no law constrains the answer. -/
inductive Reply where
  | fail
  | ok (r0 r1 r2 : Byte)
  deriving DecidableEq, Repr, Inhabited

/-- What the environment does at one step of the model (R270): exactly one event is taken by each step. -/
inductive Event where
  /-- Nothing arrives: the block makes its spontaneous move, if it has one (R270 d). -/
  | quiet
  /-- The reset input is asserted between two steps (R260, R261). -/
  | reset
  /-- The host presents a command word with a start request (R210). -/
  | start (w : BitVec 5)
  /-- The transport call in progress returns (R62). -/
  | reply (r : Reply)
  /-- The tick source produces a tick (R159). -/
  | tick
  deriving DecidableEq, Repr, Inhabited

end Sys2Proof
end

