-- ==== Sys2Proof/Config.lean ====
section
/-! DEFINITION. What an implementation fixes (the engine's parameters of spec/00_scope.md R4) and the free values: constants
with no body, about which nothing can be proved. -/

namespace Sys2Proof

/-- Form of the square in the last stage of the pressure path (R4 `SQ_FORM`, R201). -/
inductive Config.SqForm where
  | full
  | split
  deriving DecidableEq, Repr

/-- The engine's parameters (R4), each with the default the spec takes: `W_DP` = 64 (`none` is the open alternative of
decision D1, exact integers with no range test), `B3_ABS` = true, `SQ_FORM` = FULL. -/
structure Config.Engine where
  wDp    : Option Nat := some 64
  b3Abs  : Bool := true
  sqForm : Config.SqForm := .full
  deriving DecidableEq, Repr

/-- FREE VALUE (log entry 3): what the environment does at the step numbered `n`, once the events listed in the state are
used up. R75: the answers are an oracle under no law; R5: the host, the bus and the tick source are agents outside the block. -/
opaque Config.environment : Nat → Event

/-- FREE VALUE (log entry 5): coefficient `i` of the calibration store after the step that left it undefined (R142, R260). -/
opaque Config.freeCal : Nat → Nat → BitVec 16

/-- FREE VALUE (log entry 5): `MODE` after a failed CONSTRUCT (R142) or a reset (R260). -/
opaque Config.freeMode : Nat → BitVec 2

/-- FREE VALUE (log entry 6): `OP` after a reset (R260), one of its three values. -/
opaque Config.freeOp : Nat → Fin 3

/-- FREE VALUE (log entry 6): `CALIDX` after a reset (R260). -/
opaque Config.freeCalIdx : Nat → BitVec 4

/-- FREE VALUE (log entry 6): `DELAY` after a reset (R260). -/
opaque Config.freeDelay : Nat → BitVec 5

/-- FREE VALUE (log entries 6 and 7): `UT` after a reset (R260) or an abort (R236). -/
opaque Config.freeUt : Nat → BitVec 16

/-- FREE VALUE (log entries 6 and 7): `UP` after a reset (R260) or an abort (R236). -/
opaque Config.freeUp : Nat → BitVec 19

/-- FREE VALUE (log entry 6): `RES_T` after a reset (R260). -/
opaque Config.freeResT : Nat → BitVec 32

/-- FREE VALUE (log entry 6): `RES_P` after a reset (R260). -/
opaque Config.freeResP : Nat → BitVec 64

end Sys2Proof
end

