-- ==== Sys2Proof/Syntax.lean ====
section
/-! DEFINITION. The instructions: one constructor per row of spec/opcode_table.json, in the table's order. -/

namespace Sys2Proof

/-- The rows of the opcode table. A host operation keeps the two bits of its `mode` field, also where the block ignores
them (R94, R101), so that no bit of a word is dropped; a well-formed one is below 4. -/
inductive Instr where
  | construct (mode : Nat)
  | setMode (mode : Nat)
  | readTemperature (mode : Nat)
  | readPressure (mode : Nat)
  | reserved0 (mode : Nat)
  | reserved5 (mode : Nat)
  | reserved6 (mode : Nat)
  | reserved7 (mode : Nat)
  | measT
  | measP (oss : Nat)
  | rdAc1
  | rdAc2
  | rdAc3
  | rdAc4
  | rdAc5
  | rdAc6
  | rdB1
  | rdB2
  | rdMb
  | rdMc
  | rdMd
  | rdDataT
  | rdDataP
  deriving DecidableEq, Repr

/-- D0's mode names (R25). They are labels: the host word carries the exponent. -/
inductive ResolutionMode where
  | ultraLowPower
  | standard
  | highResolution
  | ultraHighResolution
  deriving DecidableEq, Repr

/-- The oversampling exponent of a mode name (R25). -/
def ResolutionMode.exponent : ResolutionMode → Nat
  | .ultraLowPower => 0
  | .standard => 1
  | .highResolution => 2
  | .ultraHighResolution => 3

end Sys2Proof
end

