-- ==== Sys2Proof/WellFormed.lean ====
section
/-! DEFINITION. Which instructions have an encoding: a two-bit field holds a number below 4 (R91, R94). -/

namespace Sys2Proof

/-- The check on one instruction: its two-bit field is in range. -/
def Instr.wellFormed : Instr → Bool
  | .construct mode => decide (mode < 4)
  | .setMode mode => decide (mode < 4)
  | .readTemperature mode => decide (mode < 4)
  | .readPressure mode => decide (mode < 4)
  | .reserved0 mode => decide (mode < 4)
  | .reserved5 mode => decide (mode < 4)
  | .reserved6 mode => decide (mode < 4)
  | .reserved7 mode => decide (mode < 4)
  | .measT => true
  | .measP oss => decide (oss < 4)
  | .rdAc1 => true
  | .rdAc2 => true
  | .rdAc3 => true
  | .rdAc4 => true
  | .rdAc5 => true
  | .rdAc6 => true
  | .rdB1 => true
  | .rdB2 => true
  | .rdMb => true
  | .rdMc => true
  | .rdMd => true
  | .rdDataT => true
  | .rdDataP => true

end Sys2Proof
end

