-- ==== Sys2Proof/Decode.lean ====
section
/-! DEFINITION. The decoder of the three formats (R90 to R96, R101), total on any words and any bytes, and after it the
encoder, written from the same tables. -/

namespace Sys2Proof

/-- Why a word is rejected. -/
inductive DecodeError where
  /-- No byte at all. -/
  | noBytes
  /-- More than two bytes: no format is that long (R90). -/
  | tooLong
  /-- A byte that is none of the five the block can write to CONTROL (R92, R101). -/
  | notACommandByte (b : Byte)
  /-- A key that is no read of the opcode table (R65, R93). -/
  | notABusRead (key : BitVec 10)
  /-- A second byte that no ten-bit key has. -/
  | notAKey (hi : Byte)
  deriving DecidableEq, Repr

/-- Format HOST: the operation named by `cmd`, bits 4:2 (R95, R101), with the two bits 1:0. -/
def decodeHost (w : BitVec 5) : Instr :=
  match (w.extractLsb' 2 3).toNat with
  | 0 => .reserved0 (w.extractLsb' 0 2).toNat
  | 1 => .construct (w.extractLsb' 0 2).toNat
  | 2 => .setMode (w.extractLsb' 0 2).toNat
  | 3 => .readTemperature (w.extractLsb' 0 2).toNat
  | 4 => .readPressure (w.extractLsb' 0 2).toNat
  | 5 => .reserved5 (w.extractLsb' 0 2).toNat
  | 6 => .reserved6 (w.extractLsb' 0 2).toNat
  | _ => .reserved7 (w.extractLsb' 0 2).toNat

/-- Format CTRL: match and mask of R96. -/
def decodeCtrl (b : Byte) : Except DecodeError Instr :=
  if b = 0x2E then .ok .measT
  else if b &&& 0x3F = 0x34 then .ok (.measP (b.extractLsb' 6 2).toNat)
  else .error (.notACommandByte b)

/-- Format BUS: the thirteen reads, by their key (R93, R61). -/
def decodeBus (key : BitVec 10) : Except DecodeError Instr :=
  if key = 0x2AA then .ok .rdAc1
  else if key = 0x2AC then .ok .rdAc2
  else if key = 0x2AE then .ok .rdAc3
  else if key = 0x2B0 then .ok .rdAc4
  else if key = 0x2B2 then .ok .rdAc5
  else if key = 0x2B4 then .ok .rdAc6
  else if key = 0x2B6 then .ok .rdB1
  else if key = 0x2B8 then .ok .rdB2
  else if key = 0x2BA then .ok .rdMb
  else if key = 0x2BC then .ok .rdMc
  else if key = 0x2BE then .ok .rdMd
  else if key = 0x2F6 then .ok .rdDataT
  else if key = 0x3F6 then .ok .rdDataP
  else .error (.notABusRead key)

/-- The instruction a word of a known format stands for. -/
def decodeWord : Word → Except DecodeError Instr
  | .host w => .ok (decodeHost w)
  | .ctrl b => decodeCtrl b
  | .bus key => decodeBus key

/-- A one-byte word: host words end at `0x1F`, and every byte the block writes to CONTROL is above it (R92, R95). -/
def wordOfByte (b : Byte) : Word :=
  if b < 0x20 then .host (b.extractLsb' 0 5) else .ctrl b

/-- The word laid out in bytes, the low byte first: one byte for HOST and CTRL, two for a bus key. -/
def wordOfBytes : List Byte → Except DecodeError Word
  | [] => .error .noBytes
  | [b] => .ok (wordOfByte b)
  | [lo, hi] =>
    if hi = 0 then .ok (wordOfByte lo)
    else if hi < 4 then .ok (.bus (hi.extractLsb' 0 2 ++ lo))
    else .error (.notAKey hi)
  | _ => .error .tooLong

/-- The decoder on bytes. -/
def decode (bytes : List Byte) : Except DecodeError Instr :=
  match wordOfBytes bytes with
  | .ok w => decodeWord w
  | .error e => .error e

/-- A host word from its two fields (R94). -/
def hostWord (cmd : BitVec 3) (mode : Nat) : Word :=
  .host (cmd ++ BitVec.ofNat 2 mode)

/-- The word of an instruction, from the encoding tables of R91, R93 to R96. -/
def encode : Instr → Word
  | .construct mode => hostWord 1 mode
  | .setMode mode => hostWord 2 mode
  | .readTemperature mode => hostWord 3 mode
  | .readPressure mode => hostWord 4 mode
  | .reserved0 mode => hostWord 0 mode
  | .reserved5 mode => hostWord 5 mode
  | .reserved6 mode => hostWord 6 mode
  | .reserved7 mode => hostWord 7 mode
  | .measT => .ctrl 0x2E
  | .measP oss => .ctrl (BitVec.ofNat 2 oss ++ 0x34#6)
  | .rdAc1 => .bus 0x2AA
  | .rdAc2 => .bus 0x2AC
  | .rdAc3 => .bus 0x2AE
  | .rdAc4 => .bus 0x2B0
  | .rdAc5 => .bus 0x2B2
  | .rdAc6 => .bus 0x2B4
  | .rdB1 => .bus 0x2B6
  | .rdB2 => .bus 0x2B8
  | .rdMb => .bus 0x2BA
  | .rdMc => .bus 0x2BC
  | .rdMd => .bus 0x2BE
  | .rdDataT => .bus 0x2F6
  | .rdDataP => .bus 0x3F6

/-- The bytes of a word, the low byte first. -/
def bytesOfWord : Word → List Byte
  | .host w => [w.setWidth 8]
  | .ctrl b => [b]
  | .bus key => [key.extractLsb' 0 8, (key.extractLsb' 8 2).setWidth 8]

/-- The bytes of an instruction. -/
def encodeBytes (i : Instr) : List Byte :=
  bytesOfWord (encode i)

/-- The bytes that hold the opcode table's bits of a row: bit 0 is the least significant bit of the first byte. -/
def tableBytes (nbits w : Nat) : List Byte :=
  (List.range ((nbits + 7) / 8)).map fun k => BitVec.ofNat 8 (w / 256 ^ k)

/-- The instruction the decoder reads from a word of the opcode table. -/
def decodeTableWord (nbits w : Nat) : Option Instr :=
  match decode (tableBytes nbits w) with
  | .ok i => some i
  | .error _ => none

end Sys2Proof
end

