-- ==== Sys2Proof/Machine/State.lean ====
section
/-! DEFINITION. The state of the block (spec/10_state.md R20 to R35), beside it the model's own fields (the events still to
come, the step number and the bus transcript), the reasons a step can stop, and the state after reset (R39). -/

namespace Sys2Proof.Machine

/-- The states of the sequencer (R26): its nine codes, and no other (spec/93 I10). -/
inductive Seq where
  | idle
  | calRd
  | tCmd
  | tWait
  | tRead
  | pCmd
  | pWait
  | pRead
  | comp
  deriving DecidableEq, Repr

/-- The operation in progress, register `OP` (R27): its three codes, and no other (I10). -/
inductive OpKind where
  | construct
  | temp
  | press
  deriving DecidableEq, Repr

/-- The error codes of `ERR` (R102): its five codes, and no other (I10). -/
inductive ErrCode where
  | ok
  | transportError
  | arithmeticError
  | rangeFault
  | illegalCommand
  deriving DecidableEq, Repr

/-- The calibration store (R21): eleven 16-bit patterns, in index order. -/
structure Cal where
  ac1 : BitVec 16
  ac2 : BitVec 16
  ac3 : BitVec 16
  ac4 : BitVec 16
  ac5 : BitVec 16
  ac6 : BitVec 16
  b1  : BitVec 16
  b2  : BitVec 16
  mb  : BitVec 16
  mc  : BitVec 16
  md  : BitVec 16
  deriving DecidableEq, Repr

/-- One entry of the bus transcript (R93): a read with the bytes it returned (`none`: it failed), a write and whether it
succeeded, and one millisecond tick counted between two transactions. That a device address is 8 bits wide is the model's
(DESIGN CHOICE, log entry 24: R60 leaves its width open). -/
inductive BusEntry where
  | read (dev reg : Byte) (len : Nat) (bytes : Option (List Byte))
  | write (dev reg val : Byte) (ok : Bool)
  | wait
  deriving DecidableEq, Repr

/-- The registers of the block (R20), then the model's own fields. -/
structure State where
  /-- `CAL[0..10]` (R21). -/
  cal : Cal
  /-- `CAL_VALID` (R23). -/
  calValid : Bool
  /-- `MODE`, the oversampling exponent (R24). -/
  mode : BitVec 2
  /-- `SEQ`, the sequencer state (R26). -/
  seq : Seq
  /-- `OP` (R27). -/
  op : OpKind
  /-- `CALIDX` (R28). -/
  calIdx : BitVec 4
  /-- `DELAY`, milliseconds still to wait (R29). -/
  delay : BitVec 5
  /-- `UT`, the raw temperature sample (R30). -/
  ut : BitVec 16
  /-- `UP`, the raw pressure sample (R31). -/
  up : BitVec 19
  /-- `RES_T`, two's complement (R33). -/
  resT : BitVec 32
  /-- `T_VALID` (R33). -/
  tValid : Bool
  /-- `RES_P`, two's complement (R34). -/
  resP : BitVec 64
  /-- `P_VALID` (R34). -/
  pValid : Bool
  /-- `BUSY` (R35). -/
  busy : Bool
  /-- `DONE` (R35). -/
  done : Bool
  /-- `ERR` (R35, R102). -/
  err : ErrCode
  /-- The model's own: the environment's events still listed, the next one first (log entry 1). -/
  script : List Event
  /-- The model's own: how many events have been taken; the argument of the free values (log entry 3). -/
  now : Nat
  /-- The model's own: the bus transcript, the newest entry first (R93, R273, log entry 8). -/
  transcript : List BusEntry
  deriving DecidableEq, Repr

/-- Reasons the machine stops with a fault. -/
inductive Fault where
  /-- Raised by `step` where the sequencer stands in `S_CAL_RD` with `CALIDX` above 10: the key it forms is no row of the
  opcode table (R28, R76), and the spec has no rule for it. SAFE: no state reachable from reset is one of these. -/
  | noSuchTransaction
  deriving DecidableEq, Repr

/-- Reasons a step is refused. -/
inductive Refusal where
  /-- Raised by `exec` alone, for an instruction that has no meaning yet. SAFE: it stops. No arm raises it. -/
  | notModelled (mnemonic : String)
  deriving DecidableEq, Repr

/-- The block right after reset (R39): the seven control bits at the values the spec gives, every register the spec leaves
unspecified at zero (DESIGN CHOICE, log entry 4), no event listed, no transaction made. -/
def State.reset : State where
  cal := ⟨0, 0, 0, 0, 0, 0, 0, 0, 0, 0, 0⟩
  calValid := false
  mode := 0
  seq := .idle
  op := .construct
  calIdx := 0
  delay := 0
  ut := 0
  up := 0
  resT := 0
  tValid := false
  resP := 0
  pValid := false
  busy := false
  done := false
  err := .ok
  script := []
  now := 0
  transcript := []

end Sys2Proof.Machine
end

