-- ==== Sys2Proof/Machine/Flags.lean ====
section
/-! DEFINITION. The status flags (R35): what acceptance, the start of an operation, completion, an abort and a refusal do to
`BUSY`, `DONE`, `ERR`, `T_VALID` and `P_VALID`. No arithmetic writes a flag (R35). -/

namespace Sys2Proof.Machine

/-- Acceptance of any command clears `DONE`, `ERR`, `T_VALID` and `P_VALID` (R210). -/
def State.clearFlags (s : State) : State :=
  { s with done := false, err := .ok, tValid := false, pValid := false }

/-- An operation that takes time has started (R210). -/
def State.busyFlags (s : State) : State :=
  { s with busy := true }

/-- An operation that was in progress ends with error code `e`, `ok` for none (R235, R236). -/
def State.endFlags (e : ErrCode) (s : State) : State :=
  { s with busy := false, done := true, err := e }

/-- An operation that completes in its acceptance step ends with code `e`; `BUSY` is not touched (R212, R215). -/
def State.atOnceFlags (e : ErrCode) (s : State) : State :=
  { s with done := true, err := e }

end Sys2Proof.Machine
end

