-- ==== Sys2Proof/Machine/Datapath.lean ====
section
/-! DEFINITION. The primitives of the engine's datapath (spec/40_datapath_primitives.md R120 to R126), on exact integers
(R6). Sum, difference and product are those of the integers (R120, R121). -/

namespace Sys2Proof.Machine

/-- `shl(v, n)`: the exact product with a power of two (R122). -/
def shl (v : Int) (n : Nat) : Int :=
  v * ((2 ^ n : Nat) : Int)

/-- `asr(v, n)`: the floor of the quotient by a power of two (R123). -/
def asr (v : Int) (n : Nat) : Int :=
  Int.fdiv v ((2 ^ n : Nat) : Int)

/-- `fdiv(a, b)`: floor division, for a divisor other than 0 (R124, R128). -/
def fdiv (a b : Int) : Int :=
  Int.fdiv a b

/-- `abs(v)` (R125). -/
def absolute (v : Int) : Int :=
  if v < 0 then -v else v

/-- `lt(a, b)`: the signed comparison of the integers (R126). -/
def lt (a b : Int) : Bool :=
  decide (a < b)

end Sys2Proof.Machine
end

