-- ==== Sys2Proof/Machine/Operands.lean ====
section
/-! DEFINITION. Operand assembly and the constants of the block (spec/30_encoding.md R91 to R105, spec/20_memory.md R61):
how bytes become coefficients and samples, which bytes the block writes, which registers it reads, how long it waits. -/

namespace Sys2Proof.Machine

/-- `decodeSigned16` (R97). -/
def decodeSigned16 (hi lo : Byte) : Int :=
  if hi.toNat > 127 then ((hi.toNat : Int) - 256) * 256 + (lo.toNat : Int)
  else (hi.toNat : Int) * 256 + (lo.toNat : Int)

/-- `decodeUnsigned16` (R98). -/
def decodeUnsigned16 (hi lo : Byte) : Nat :=
  hi.toNat * 256 + lo.toNat

/-- A signed coefficient as the 16-bit register holds it (R21, R141). -/
def signedCoefficient (hi lo : Byte) : BitVec 16 :=
  BitVec.ofInt 16 (decodeSigned16 hi lo)

/-- An unsigned coefficient as the 16-bit register holds it (R21, R141). -/
def unsignedCoefficient (hi lo : Byte) : BitVec 16 :=
  BitVec.ofNat 16 (decodeUnsigned16 hi lo)

/-- `UT` from the two bytes read (R99). -/
def rawTemperature (r0 r1 : Byte) : BitVec 16 :=
  BitVec.ofNat 16 (r0.toNat * 256 + r1.toNat)

/-- `UP` from the three bytes read and the oversampling exponent (R100). -/
def rawPressure (r0 r1 r2 : Byte) (mode : BitVec 2) : BitVec 19 :=
  BitVec.ofInt 19
    (asr ((r0.toNat * 65536 + r1.toNat * 256 + r2.toNat : Nat) : Int) (8 - mode.toNat))

/-- `DEV_ADDR` (R60). Its type, 8 bits, is the model's (DESIGN CHOICE, log entry 24): R60 and N13 leave the width of a device
address open, and nothing here depends on it. -/
def devAddr : Byte := 0x77

/-- The sensor's CONTROL register (R61). -/
def controlReg : Byte := 0xF4

/-- The sensor's DATA register (R61). -/
def dataReg : Byte := 0xF6

/-- The register of the high byte of coefficient `i` (R21, R141). -/
def calReg (i : Nat) : Byte :=
  BitVec.ofNat 8 (0xAA + 2 * i)

/-- The temperature command byte (R91). -/
def commandT : Byte := 0x2E

/-- The pressure command byte for exponent `oss` (R91, R92). -/
def commandP (oss : BitVec 2) : Byte :=
  0x34 ||| (oss.setWidth 8 <<< 6)

/-- The key of a read of `len` bytes at `reg` in the opcode table (R93). -/
def readKey (len : BitVec 2) (reg : Byte) : BitVec 10 :=
  len ++ reg

/-- `T_DELAY_MS` (R104). -/
def tDelay : BitVec 5 := 5

/-- `P_DELAY_MS[MODE]` (R104). -/
def pDelay (mode : BitVec 2) : BitVec 5 :=
  if mode = 2 then 14 else if mode = 3 then 26 else 5

/-- The code of a sequencer state (R26). -/
def Seq.code : Seq → BitVec 4
  | .idle => 0
  | .calRd => 1
  | .tCmd => 2
  | .tWait => 3
  | .tRead => 4
  | .pCmd => 5
  | .pWait => 6
  | .pRead => 7
  | .comp => 8

/-- The code of an operation (R27). -/
def OpKind.code : OpKind → BitVec 2
  | .construct => 0
  | .temp => 1
  | .press => 2

/-- The operation with a given code below 3 (R27). -/
def OpKind.ofCode (c : Fin 3) : OpKind :=
  if c = 0 then .construct else if c = 1 then .temp else .press

/-- The code of an error (R102). -/
def ErrCode.code : ErrCode → BitVec 3
  | .ok => 0
  | .transportError => 1
  | .arithmeticError => 2
  | .rangeFault => 3
  | .illegalCommand => 4

end Sys2Proof.Machine
end

