-- ==== Sys2Proof/Machine/Ops.lean ====
section
/-! DEFINITION. The named operations: taking the next event, the word the block takes up, acceptance of a command, the two
bus transactions, completion, the abort (the block's only exception entry, R236), reset, and what the host can read. -/

namespace Sys2Proof.Machine

/-- The event of this step: the next one listed, and once none is listed whatever the environment does (R75, log entry 3). -/
def State.event (s : State) : Event :=
  match s.script with
  | e :: _ => e
  | [] => Config.environment s.now

/-- The event of this step is taken. -/
def State.consume (s : State) : State :=
  { s with script := s.script.tail, now := s.now + 1 }

/-- The answer of the transport, if it arrives at this step (R62). -/
def State.reply (s : State) : Option Reply :=
  match s.event with
  | .reply r => some r
  | _ => none

/-- One entry more in the bus transcript (R93). -/
def State.record (e : BusEntry) (s : State) : State :=
  { s with transcript := e :: s.transcript }

/-! ### Completion and the abort -/

/-- Normal completion (R235). -/
def State.complete (s : State) : State :=
  { s.endFlags .ok with seq := .idle }

/-- The temperature sample of the operation is lost (R158, R236): a free value (log entry 7). -/
def State.loseUt (s : State) : State :=
  { s with ut := Config.freeUt s.now }

/-- The pressure sample of the operation is lost (R236): a free value (log entry 7). -/
def State.loseUp (s : State) : State :=
  { s with up := Config.freeUp s.now }

/-- Abort, the block's exception entry (R236), of an operation that has taken no sample yet: nothing is saved, control passes
to `S_IDLE` with the code in `ERR`. There is no return from it (R238): the next command is accepted as after a completion.
An operation that has taken samples loses them, and no other (R218): see `abortSampled` and `abortEvaluation`. -/
def State.abort (e : ErrCode) (s : State) : State :=
  { s.endFlags e with seq := .idle }

/-- The abort of an operation that has taken its temperature sample and no pressure sample (R158, R236). -/
def State.abortSampled (e : ErrCode) (s : State) : State :=
  s.loseUt.abort e

/-- The abort in `S_COMP` (R157, R236), where a READ_TEMPERATURE has taken one sample and a READ_PRESSURE both. -/
def State.abortEvaluation (e : ErrCode) (s : State) : State :=
  if s.op = .temp then s.abortSampled e else s.loseUp.abortSampled e

/-- `CAL` and `MODE` hold no defined value any more (R142, R260): free values. -/
def State.forgetCal (s : State) : State :=
  { s with
    cal := ⟨Config.freeCal s.now 0, Config.freeCal s.now 1, Config.freeCal s.now 2, Config.freeCal s.now 3,
      Config.freeCal s.now 4, Config.freeCal s.now 5, Config.freeCal s.now 6, Config.freeCal s.now 7,
      Config.freeCal s.now 8, Config.freeCal s.now 9, Config.freeCal s.now 10⟩,
    mode := Config.freeMode s.now }

/-- The abort of a CONSTRUCT whose read failed (R142); it has no samples to lose (R218). -/
def State.abortConstruct (s : State) : State :=
  (s.abort .transportError).forgetCal

/-! ### Commands of the host -/

/-- A command not allowed is refused (R215). -/
def State.refuse (s : State) : State :=
  s.atOnceFlags .illegalCommand

/-- Acceptance (R210): only in `S_IDLE`; the flags are cleared, the precondition is checked, and the operation starts or is
refused (R215). In any other state the start request is not sampled (R216). -/
def State.accept (allowed : Bool) (start : State → State) (s : State) : State :=
  if s.seq = .idle then
    if allowed then start s.consume.clearFlags else s.consume.clearFlags.refuse
  else s.consume

/-! ### Bus transactions -/

/-- `MemRead(reg, len)` (R10, R62 to R64, R68) as one step: `onOk` gets the bytes of the answer, `onFail` follows a failure;
until the transport returns the block stays where it is (R270). -/
def State.busRead (reg : Byte) (len : Nat) (onOk : Byte → Byte → Byte → State → State) (onFail : State → State)
    (s : State) : State :=
  match s.reply with
  | some (.ok r0 r1 r2) =>
    onOk r0 r1 r2 (s.consume.record (.read devAddr reg len (some ([r0, r1, r2].take len))))
  | some .fail => onFail (s.consume.record (.read devAddr reg len none))
  | none => s.consume

/-- `MemWrite(CONTROL, 1, val)` (R10, R62) as one step; `onFail` follows a failure. -/
def State.busWrite (val : Byte) (onOk onFail : State → State) (s : State) : State :=
  match s.reply with
  | some (.ok _ _ _) => onOk (s.consume.record (.write devAddr controlReg val true))
  | some .fail => onFail (s.consume.record (.write devAddr controlReg val false))
  | none => s.consume

/-! ### The word the block takes up -/

/-- The word of the transaction of the current sequencer state (R141, R151, R153, R154, R156). -/
def State.busWord (s : State) : Option Word :=
  match s.seq with
  | .calRd => some (.bus (readKey 2 (calReg s.calIdx.toNat)))
  | .tCmd => some (.ctrl commandT)
  | .tRead => some (.bus (readKey 2 dataReg))
  | .pCmd => some (.ctrl (commandP s.mode))
  | .pRead => some (.bus (readKey 3 dataReg))
  | .idle => none
  | .tWait => none
  | .pWait => none
  | .comp => none

/-- The word the block takes up at this step: the host's, with a start request; its own, when the transport returns. -/
def State.fetch (s : State) : Option Word :=
  match s.event with
  | .start w => some (.host w)
  | .reply _ => s.busWord
  | .quiet => none
  | .reset => none
  | .tick => none

/-- A word of the opcode table placed where the next step takes it up: a host word is presented in `S_IDLE`; for a word of
the sequencer the block stands in the state that forms it and the transport returns success (log entry 2). -/
def State.place (w : Word) (s : State) : State :=
  match w with
  | .host h => { s with seq := .idle, busy := false, script := .start h :: s.script }
  | .ctrl b =>
    if b = commandT then
      { s with seq := .tCmd, busy := true, script := .reply (.ok 0 0 0) :: s.script }
    else
      { s with seq := .pCmd, busy := true, mode := b.extractLsb' 6 2, script := .reply (.ok 0 0 0) :: s.script }
  | .bus key =>
    if key = readKey 2 dataReg then
      { s with seq := .tRead, busy := true, script := .reply (.ok 0 0 0) :: s.script }
    else if key = readKey 3 dataReg then
      { s with seq := .pRead, busy := true, script := .reply (.ok 0 0 0) :: s.script }
    else
      { s with seq := .calRd, busy := true, calIdx := BitVec.ofNat 4 ((key.toNat - 0x2AA) / 2),
               script := .reply (.ok 0 0 0) :: s.script }

/-! ### Reset -/

/-- The reset input (R260, R261): the control bits take their values, every other register becomes unspecified (free
values, log entries 5 and 6), no bus transaction is made and an operation in progress is dropped. -/
def State.hardReset (s : State) : State :=
  { s.consume.forgetCal with
    seq := .idle, busy := false, done := false, err := .ok, calValid := false, tValid := false, pValid := false,
    op := OpKind.ofCode (Config.freeOp s.consume.now),
    calIdx := Config.freeCalIdx s.consume.now,
    delay := Config.freeDelay s.consume.now,
    ut := Config.freeUt s.consume.now,
    up := Config.freeUp s.consume.now,
    resT := Config.freeResT s.consume.now,
    resP := Config.freeResP s.consume.now }

/-! ### What the host can read -/

/-- The response record (R103): a result is there only while its valid flag is 1 (R34, R268). -/
structure Response where
  busy : Bool
  done : Bool
  err  : BitVec 3
  resT : Option (BitVec 32)
  resP : Option (BitVec 64)
  deriving DecidableEq, Repr

/-- What the host can read of a state (R20, R103). -/
def State.response (s : State) : Response :=
  { busy := s.busy, done := s.done, err := s.err.code,
    resT := if s.tValid then some s.resT else none,
    resP := if s.pValid then some s.resP else none }

end Sys2Proof.Machine
end

