-- ==== Sys2Proof/Machine/Calibration.lean ====
section
/-! DEFINITION. The reads of the calibration load LOAD_CAL (spec/41_calibration_load.md R140 to R143). -/

namespace Sys2Proof.Machine

/-- The step of R141 for coefficient `i`: the read, the store, then the next index, or completion after the last (R143). A
failure aborts the construction (R142). -/
def State.loadCoefficient (i : Nat) (store : Byte → Byte → Cal → Cal) (s : State) : State :=
  s.busRead (calReg i) 2
    (fun r0 r1 _ t =>
      if i = 10 then { t with cal := store r0 r1 t.cal, calValid := true }.complete
      else { t with cal := store r0 r1 t.cal, calIdx := BitVec.ofNat 4 (i + 1), seq := .calRd })
    State.abortConstruct

/-- `RD_AC1`: coefficient 0, signed (R21, R141). -/
def execRdAc1 (s : State) : Host.Outcome State Fault Refusal :=
  .next (s.loadCoefficient 0 (fun r0 r1 c => { c with ac1 := signedCoefficient r0 r1 }))

/-- `RD_AC2`: coefficient 1, signed (R21, R141). -/
def execRdAc2 (s : State) : Host.Outcome State Fault Refusal :=
  .next (s.loadCoefficient 1 (fun r0 r1 c => { c with ac2 := signedCoefficient r0 r1 }))

/-- `RD_AC3`: coefficient 2, signed (R21, R141). -/
def execRdAc3 (s : State) : Host.Outcome State Fault Refusal :=
  .next (s.loadCoefficient 2 (fun r0 r1 c => { c with ac3 := signedCoefficient r0 r1 }))

/-- `RD_AC4`: coefficient 3, unsigned (R21, R141). -/
def execRdAc4 (s : State) : Host.Outcome State Fault Refusal :=
  .next (s.loadCoefficient 3 (fun r0 r1 c => { c with ac4 := unsignedCoefficient r0 r1 }))

/-- `RD_AC5`: coefficient 4, unsigned (R21, R141). -/
def execRdAc5 (s : State) : Host.Outcome State Fault Refusal :=
  .next (s.loadCoefficient 4 (fun r0 r1 c => { c with ac5 := unsignedCoefficient r0 r1 }))

/-- `RD_AC6`: coefficient 5, unsigned (R21, R141). -/
def execRdAc6 (s : State) : Host.Outcome State Fault Refusal :=
  .next (s.loadCoefficient 5 (fun r0 r1 c => { c with ac6 := unsignedCoefficient r0 r1 }))

/-- `RD_B1`: coefficient 6, signed (R21, R141). -/
def execRdB1 (s : State) : Host.Outcome State Fault Refusal :=
  .next (s.loadCoefficient 6 (fun r0 r1 c => { c with b1 := signedCoefficient r0 r1 }))

/-- `RD_B2`: coefficient 7, signed (R21, R141). -/
def execRdB2 (s : State) : Host.Outcome State Fault Refusal :=
  .next (s.loadCoefficient 7 (fun r0 r1 c => { c with b2 := signedCoefficient r0 r1 }))

/-- `RD_MB`: coefficient 8, signed (R21, R141). -/
def execRdMb (s : State) : Host.Outcome State Fault Refusal :=
  .next (s.loadCoefficient 8 (fun r0 r1 c => { c with mb := signedCoefficient r0 r1 }))

/-- `RD_MC`: coefficient 9, signed (R21, R141). -/
def execRdMc (s : State) : Host.Outcome State Fault Refusal :=
  .next (s.loadCoefficient 9 (fun r0 r1 c => { c with mc := signedCoefficient r0 r1 }))

/-- `RD_MD`: coefficient 10, signed (R21, R141). -/
def execRdMd (s : State) : Host.Outcome State Fault Refusal :=
  .next (s.loadCoefficient 10 (fun r0 r1 c => { c with md := signedCoefficient r0 r1 }))

end Sys2Proof.Machine
end

