-- ==== Sys2Proof/Machine/Command.lean ====
section
/-! DEFINITION. The two command writes of the sequencer (spec/42_measurement_sequencer.md R151, R154, R158). -/

namespace Sys2Proof.Machine

/-- `MEAS_T`, the step in `S_T_CMD` (R151). A failure comes before any sample (R158). -/
def execMeasT (s : State) : Host.Outcome State Fault Refusal :=
  .next (s.busWrite commandT (fun t => { t with delay := tDelay, seq := .tWait }) (State.abort .transportError))

/-- `MEAS_P`, the step in `S_P_CMD` (R154): the byte carries `OSS`, the delay is that of `MODE`; the sequencer forms the byte
from `MODE`, so the two are the same number (log entry 15). A failure discards the temperature sample (R158). -/
def execMeasP (oss : Nat) (s : State) : Host.Outcome State Fault Refusal :=
  .next (s.busWrite (commandP (BitVec.ofNat 2 oss)) (fun t => { t with delay := pDelay t.mode, seq := .pWait })
    (State.abortSampled .transportError))

end Sys2Proof.Machine
end

