-- ==== Sys2Proof/Machine/Host.lean ====
section
/-! DEFINITION. The commands of the host (spec/45_host_operations.md R210 to R216): each meaning is the acceptance step. -/

namespace Sys2Proof.Machine

/-- `CONSTRUCT mode` (R211): allowed while no calibration is held. -/
def execConstruct (mode : Nat) (s : State) : Host.Outcome State Fault Refusal :=
  .next (s.accept (!s.calValid) fun a =>
    { a.busyFlags with mode := BitVec.ofNat 2 mode, calIdx := 0, op := .construct, seq := .calRd })

/-- `SET_MODE mode` (R212): completes in its acceptance step. -/
def execSetMode (mode : Nat) (s : State) : Host.Outcome State Fault Refusal :=
  .next (s.accept s.calValid fun a => { a.atOnceFlags .ok with mode := BitVec.ofNat 2 mode })

/-- `READ_TEMPERATURE` (R213); the `mode` bits are ignored. -/
def execReadTemperature (_mode : Nat) (s : State) : Host.Outcome State Fault Refusal :=
  .next (s.accept s.calValid fun a => { a.busyFlags with op := .temp, seq := .tCmd })

/-- `READ_PRESSURE` (R214); the `mode` bits are ignored, the exponent is that of `MODE`. -/
def execReadPressure (_mode : Nat) (s : State) : Host.Outcome State Fault Refusal :=
  .next (s.accept s.calValid fun a => { a.busyFlags with op := .press, seq := .tCmd })

/-- Reserved code 0: refused (R101, R215). -/
def execReserved0 (_mode : Nat) (s : State) : Host.Outcome State Fault Refusal :=
  .next (s.accept false id)

/-- Reserved code 5: refused (R101, R215). -/
def execReserved5 (_mode : Nat) (s : State) : Host.Outcome State Fault Refusal :=
  .next (s.accept false id)

/-- Reserved code 6: refused (R101, R215). -/
def execReserved6 (_mode : Nat) (s : State) : Host.Outcome State Fault Refusal :=
  .next (s.accept false id)

/-- Reserved code 7: refused (R101, R215). -/
def execReserved7 (_mode : Nat) (s : State) : Host.Outcome State Fault Refusal :=
  .next (s.accept false id)

end Sys2Proof.Machine
end

