-- ==== Sys2Proof/Machine/ReadBack.lean ====
section
/-! DEFINITION. The two read-backs of the sequencer (spec/42_measurement_sequencer.md R153, R156, R158). -/

namespace Sys2Proof.Machine

/-- `RD_DATA_T`, the step in `S_T_READ` (R153). A failure writes no sample (R158). -/
def execRdDataT (s : State) : Host.Outcome State Fault Refusal :=
  .next (s.busRead dataReg 2
    (fun r0 r1 _ t => { t with ut := rawTemperature r0 r1, seq := if t.op = .temp then .comp else .pCmd })
    (State.abort .transportError))

/-- `RD_DATA_P`, the step in `S_P_READ` (R156). A failure writes no sample and discards that of the temperature (R158). -/
def execRdDataP (s : State) : Host.Outcome State Fault Refusal :=
  .next (s.busRead dataReg 3
    (fun r0 r1 r2 t => { t with up := rawPressure r0 r1 r2 t.mode, seq := .comp })
    (State.abortSampled .transportError))

end Sys2Proof.Machine
end

