-- ==== Sys2Proof/Machine/Dispatch.lean ====
section
/-! DEFINITION. One arm per instruction. -/

namespace Sys2Proof.Machine



/-- The meaning of each instruction. -/
def exec (i : Instr) (s : State) : Host.Outcome State Fault Refusal :=
  match i with
  | .construct mode => Sys2Proof.Machine.execConstruct mode s
  | .setMode mode => Sys2Proof.Machine.execSetMode mode s
  | .readTemperature mode => Sys2Proof.Machine.execReadTemperature mode s
  | .readPressure mode => Sys2Proof.Machine.execReadPressure mode s
  | .reserved0 mode => Sys2Proof.Machine.execReserved0 mode s
  | .reserved5 mode => Sys2Proof.Machine.execReserved5 mode s
  | .reserved6 mode => Sys2Proof.Machine.execReserved6 mode s
  | .reserved7 mode => Sys2Proof.Machine.execReserved7 mode s
  | .measT => Sys2Proof.Machine.execMeasT s
  | .measP oss => Sys2Proof.Machine.execMeasP oss s
  | .rdAc1 => Sys2Proof.Machine.execRdAc1 s
  | .rdAc2 => Sys2Proof.Machine.execRdAc2 s
  | .rdAc3 => Sys2Proof.Machine.execRdAc3 s
  | .rdAc4 => Sys2Proof.Machine.execRdAc4 s
  | .rdAc5 => Sys2Proof.Machine.execRdAc5 s
  | .rdAc6 => Sys2Proof.Machine.execRdAc6 s
  | .rdB1 => Sys2Proof.Machine.execRdB1 s
  | .rdB2 => Sys2Proof.Machine.execRdB2 s
  | .rdMb => Sys2Proof.Machine.execRdMb s
  | .rdMc => Sys2Proof.Machine.execRdMc s
  | .rdMd => Sys2Proof.Machine.execRdMd s
  | .rdDataT => Sys2Proof.Machine.execRdDataT s
  | .rdDataP => Sys2Proof.Machine.execRdDataP s

end Sys2Proof.Machine
end

