-- ==== Sys2Proof/Machine/Compensation.lean ====
section
/-! DEFINITION. The compensation engine: COMP_T (spec/43_compensation_temperature.md) and COMP_P
(spec/44_compensation_pressure.md), one definition per named value. None of these values is state (R32). -/

namespace Sys2Proof.Machine

/-- The parameters the block is built with: the defaults of R4. -/
def engine : Config.Engine := {}

/-! ### The temperature path -/

/-- R171. -/
def tx1 (c : Cal) (ut : BitVec 16) : Int :=
  asr (((ut.toNat : Int) - (c.ac6.toNat : Int)) * (c.ac5.toNat : Int)) 15

/-- R172, the divisor. -/
def den (c : Cal) (ut : BitVec 16) : Int :=
  tx1 c ut + c.md.toInt

/-- R173, for a divisor other than 0. -/
def tx2 (c : Cal) (ut : BitVec 16) : Int :=
  fdiv (shl c.mc.toInt 11) (den c ut)

/-- R174. -/
def b5 (c : Cal) (ut : BitVec 16) : Int :=
  tx1 c ut + tx2 c ut

/-- R175: the temperature in tenths of a degree, from `b5`. -/
def temperature (b5v : Int) : Int :=
  asr (b5v + 8) 4

/-- `COMP_T` (R170 to R175): the pair of `b5` and `T`, or `ArithmeticError` for a zero divisor (R172). -/
def compT (c : Cal) (ut : BitVec 16) : Except ErrCode (Int × Int) :=
  if den c ut = 0 then .error .arithmeticError
  else .ok (b5 c ut, temperature (b5 c ut))

/-! ### The pressure path, up to the divisor -/

/-- R182. -/
def b6 (b5v : Int) : Int :=
  b5v - 4000

/-- R183: the square first, then the shift. -/
def b62 (b5v : Int) : Int :=
  asr (b6 b5v * b6 b5v) 12

/-- R185. -/
def px1 (c : Cal) (b5v : Int) : Int :=
  asr (c.b2.toInt * b62 b5v) 11

/-- R186. -/
def px2 (c : Cal) (b5v : Int) : Int :=
  asr (c.ac2.toInt * b6 b5v) 11

/-- R187. -/
def px3 (c : Cal) (b5v : Int) : Int :=
  px1 c b5v + px2 c b5v

/-- `s` of R188. -/
def sSum (c : Cal) (b5v : Int) : Int :=
  c.ac1.toInt * 4 + px3 c b5v

/-- `sa` of R189: the absolute value where `B3_ABS` is true. -/
def sa (g : Config.Engine) (c : Cal) (b5v : Int) : Int :=
  if g.b3Abs then absolute (sSum c b5v) else sSum c b5v

/-- R189. -/
def b3 (g : Config.Engine) (c : Cal) (b5v : Int) (oss : Nat) : Int :=
  asr (shl (sa g c b5v) oss + 2) 2

/-- R191. -/
def qx1 (c : Cal) (b5v : Int) : Int :=
  asr (c.ac3.toInt * b6 b5v) 13

/-- R192. -/
def qx2 (c : Cal) (b5v : Int) : Int :=
  asr (c.b1.toInt * b62 b5v) 16

/-- R193. -/
def qx3 (c : Cal) (b5v : Int) : Int :=
  asr (qx1 c b5v + qx2 c b5v + 2) 2

/-- R194, the divisor. -/
def b4 (c : Cal) (b5v : Int) : Int :=
  asr ((c.ac4.toNat : Int) * (qx3 c b5v + 32768)) 15

/-- R195, R105. -/
def kScale (oss : Nat) : Int :=
  asr 50000 oss

/-- R196. -/
def b7 (g : Config.Engine) (c : Cal) (b5v up : Int) (oss : Nat) : Int :=
  (up - b3 g c b5v oss) * kScale oss

/-! ### The pressure path, from the division on -/

/-- The divider stage (R198), for a divisor other than 0. -/
def dividerStage (b7v b4v : Int) : Int :=
  if lt b7v 2147483648 then fdiv (b7v * 2) b4v else fdiv b7v b4v * 2

/-- `p0` of R198. -/
def p0 (g : Config.Engine) (c : Cal) (b5v up : Int) (oss : Nat) : Int :=
  dividerStage (b7 g c b5v up oss) (b4 c b5v)

/-- The range test of R200: the square does not fit the signed datapath of `W_DP` bits. -/
def squareOverflows (g : Config.Engine) (p : Int) : Bool :=
  match g.wDp with
  | some w => decide (p * p > ((2 ^ (w - 1) : Nat) : Int) - 1)
  | none => false

/-- R201, in the form `SQ_FORM` selects. -/
def rx1 (g : Config.Engine) (p : Int) : Int :=
  match g.sqForm with
  | .full => asr (p * p) 16
  | .split => asr p 8 * asr p 8

/-- R202. -/
def rx2 (g : Config.Engine) (p : Int) : Int :=
  asr (rx1 g p * 3038) 16

/-- R203. -/
def rx3 (p : Int) : Int :=
  asr (-7357 * p) 16

/-- R204: the pressure in pascal, from `p0`. -/
def pressure (g : Config.Engine) (p : Int) : Int :=
  p + asr (rx2 g p + rx3 p + 3791) 4

/-- `COMP_P` (R180 to R204), with the tests in the order of R205: zero divisor (R197), then the range (R200). -/
def compP (g : Config.Engine) (c : Cal) (b5v up : Int) (oss : Nat) : Except ErrCode Int :=
  if b4 c b5v = 0 then .error .arithmeticError
  else if squareOverflows g (p0 g c b5v up oss) then .error .rangeFault
  else .ok (pressure g (p0 g c b5v up oss))

end Sys2Proof.Machine
end

