-- ==== Sys2Proof/Machine/Sequencer.lean ====
section
/-! DEFINITION. The moves of the sequencer that carry no word of the opcode table: the tick (R159), the exit from a waiting
state (R152, R155), the evaluation of the engine (R157), reset, and the events that change nothing. -/

namespace Sys2Proof.Machine

/-- A tick counts `DELAY` down in a waiting state while it is above 0; in every other situation it changes nothing (R159). -/
def State.tick (s : State) : State :=
  if (s.seq = .tWait ∨ s.seq = .pWait) ∧ s.delay ≠ 0 then
    { s.consume.record .wait with delay := s.delay - 1 }
  else s.consume

/-- A READ_TEMPERATURE ends: `RES_T` and its flag, then completion (R157, R235). -/
def State.deliverT (t : Int) (s : State) : State :=
  { s with resT := BitVec.ofInt 32 t, tValid := true }.complete

/-- A READ_PRESSURE ends: `RES_P` and its flag, then completion (R157, R235). -/
def State.deliverP (p : Int) (s : State) : State :=
  { s with resP := BitVec.ofInt 64 p, pValid := true }.complete

/-- `S_COMP` (R157): the temperature path, and for a READ_PRESSURE the pressure path after it; the first error wins (R205). -/
def State.evaluate (s : State) : State :=
  match compT s.cal s.ut with
  | .error e => s.consume.abortEvaluation e
  | .ok (b5v, t) =>
    if s.op = .temp then s.consume.deliverT t
    else
      match compP engine s.cal b5v (s.up.toNat : Int) s.mode.toNat with
      | .error e => s.consume.abortEvaluation e
      | .ok p => s.consume.deliverP p

/-- The spontaneous moves (R270 d): out of a waiting state whose `DELAY` is 0, and the evaluation in `S_COMP`. In every other
state nothing happens until something arrives. -/
def State.spontaneous (s : State) : State :=
  match s.seq with
  | .tWait => if s.delay = 0 then { s.consume with seq := .tRead } else s.consume
  | .pWait => if s.delay = 0 then { s.consume with seq := .pRead } else s.consume
  | .comp => s.evaluate
  | .idle => s.consume
  | .calRd => s.consume
  | .tCmd => s.consume
  | .tRead => s.consume
  | .pCmd => s.consume
  | .pRead => s.consume

/-- A step at which the block takes up no word. -/
def State.internal (s : State) : State :=
  match s.event with
  | .reset => s.hardReset
  | .tick => s.tick
  | .quiet => s.spontaneous
  | .start _ => s.consume
  | .reply _ => s.consume

end Sys2Proof.Machine
end

