-- ==== Sys2Proof/Machine/Step.lean ====
section
/-! DEFINITION. One step of the machine: one event is taken; if it makes the block take up a word, the word is decoded and
its instruction runs, else the block makes its own move (R150, R270). -/

namespace Sys2Proof.Machine

/-- One step. -/
def step (s : State) : Host.Outcome State Fault Refusal :=
  match s.fetch with
  | some w =>
    match decodeWord w with
    | .ok i => exec i s
    | .error _ => .fault .noSuchTransaction
  | none => .next s.internal

/-- A word of the opcode table placed where `step` takes up its next one; bits that are no word of a format change nothing. -/
def State.withFetchWord (s : State) (nbits w : Nat) : State :=
  match wordOfBytes (tableBytes nbits w) with
  | .ok word => s.place word
  | .error _ => s

end Sys2Proof.Machine
end

