-- ==== Sys2Proof/Safety.lean ====
section
/-! DEFINITION. What counts as a safe run: the invariant of the registers, the transactions the block may make (R65, R76),
the delay between a command and its read-back (R71), and the transition table of the sequencer (R150). -/

namespace Sys2Proof.Machine

/-- The relations between the registers that hold at reset and that every step keeps. -/
structure State.Inv (s : State) : Prop where
  /-- `BUSY` equals `SEQ ≠ S_IDLE` (R35). -/
  busy : s.busy = true ↔ s.seq ≠ .idle
  /-- While an operation runs the flags are as acceptance left them (R210, R236). -/
  running : s.seq ≠ .idle → s.done = false ∧ s.err = .ok ∧ s.tValid = false ∧ s.pValid = false
  /-- The calibration load runs only in a CONSTRUCT, without a calibration, on an index 0 to 10 (R23, R27, R28). -/
  loading : s.seq = .calRd → s.calValid = false ∧ s.op = .construct ∧ s.calIdx.toNat ≤ 10
  /-- A measurement runs only with a calibration (R213 to R215). -/
  measuring : s.seq ≠ .idle → s.seq ≠ .calRd → s.calValid = true ∧ s.op ≠ .construct
  /-- The pressure measurement belongs to a READ_PRESSURE (R153). -/
  pressing : s.seq = .pCmd ∨ s.seq = .pWait ∨ s.seq = .pRead → s.op = .press
  /-- The temperature wait is of 5 ms at most (R151). -/
  waitT : s.seq = .tWait → s.delay.toNat ≤ 5
  /-- The pressure wait is at most that of the mode (R154). -/
  waitP : s.seq = .pWait → s.delay.toNat ≤ (pDelay s.mode).toNat
  /-- A read-back comes with the delay counted out (R152, R155). -/
  waited : s.seq = .tRead ∨ s.seq = .pRead → s.delay = 0
  /-- The raw pressure has at most 16 bits and one for each step of the exponent (R31). -/
  sample : s.seq = .comp → s.op = .press → s.up.toNat < 2 ^ (16 + s.mode.toNat)
  /-- A temperature result belongs to a completion without error, and is the only result (R33, R103). -/
  resultT : s.tValid = true → s.done = true ∧ s.err = .ok ∧ s.calValid = true ∧ s.pValid = false
  /-- A pressure result belongs to a completion without error (R34, R103). -/
  resultP : s.pValid = true → s.done = true ∧ s.err = .ok ∧ s.calValid = true
  /-- An error code stands only with `DONE` (R35). -/
  error : s.err ≠ .ok → s.done = true

/-! ### The bus -/

/-- The accesses the block can make (R65), all to the device `0x77` (R60). -/
def BusEntry.legal : BusEntry → Prop
  | .read dev reg len _ =>
    dev = 0x77 ∧ ((len = 2 ∧ ∃ i : Nat, i ≤ 10 ∧ reg = BitVec.ofNat 8 (0xAA + 2 * i)) ∨
      (reg = 0xF6 ∧ (len = 2 ∨ len = 3)))
  | .write dev reg val _ =>
    dev = 0x77 ∧ reg = 0xF4 ∧ (val = 0x2E ∨ val = 0x34 ∨ val = 0x74 ∨ val = 0xB4 ∨ val = 0xF4)
  | .wait => True

/-- Every entry of a transcript is an access the block can make. -/
def transcriptLegal (l : List BusEntry) : Prop :=
  ∀ e ∈ l, e.legal

/-- The ticks counted since the command written last, and that command, at the head of a transcript (newest first); no
command where another transaction came after it or it failed. -/
def sinceCommand : List BusEntry → Nat × Option Byte
  | .wait :: rest => ((sinceCommand rest).1 + 1, (sinceCommand rest).2)
  | .write _ _ val true :: _ => (0, some val)
  | .write _ _ _ false :: _ => (0, none)
  | .read _ _ _ _ :: _ => (0, none)
  | [] => (0, none)

/-- The milliseconds that must pass between a command byte and its read-back (R71, R104). -/
def conversionMs (command : Byte) : Nat :=
  if command = 0xB4 then 14 else if command = 0xF4 then 26 else 5

/-- Every read of DATA in a transcript (newest first) comes right after a command written with success, not before its delay
has been counted; two bytes after the temperature command, three after a pressure command (R71, R161, R162). -/
def delayRespected : List BusEntry → Prop
  | [] => True
  | .read _ reg len _ :: rest =>
    (reg = 0xF6 → ∃ c, (sinceCommand rest).2 = some c ∧ conversionMs c ≤ (sinceCommand rest).1 ∧
      (len = 2 ↔ c = 0x2E)) ∧ delayRespected rest
  | .write _ _ _ _ :: rest => delayRespected rest
  | .wait :: rest => delayRespected rest

/-- The delay rule of the transcript, and what ties the waiting states to it: ticks counted and ticks still to count make up
the delay of the command written last. -/
structure State.DelayInv (s : State) : Prop where
  past : delayRespected s.transcript
  waitT : s.seq = .tWait →
    (sinceCommand s.transcript).2 = some 0x2E ∧ 5 ≤ (sinceCommand s.transcript).1 + s.delay.toNat
  readT : s.seq = .tRead →
    (sinceCommand s.transcript).2 = some 0x2E ∧ 5 ≤ (sinceCommand s.transcript).1
  waitP : s.seq = .pWait →
    (sinceCommand s.transcript).2 = some (commandP s.mode) ∧
      (pDelay s.mode).toNat ≤ (sinceCommand s.transcript).1 + s.delay.toNat
  readP : s.seq = .pRead →
    (sinceCommand s.transcript).2 = some (commandP s.mode) ∧
      (pDelay s.mode).toNat ≤ (sinceCommand s.transcript).1

/-! ### The transition table -/

/-- Where `SEQ` goes at a step, row by row of the table of R150; an event that no row names leaves it, reset clears it
(R260). -/
def State.tableNext (s : State) : Seq :=
  match s.seq, s.event with
  | _, .reset => .idle
  | .idle, .start w =>
    if w.extractLsb' 2 3 = 1 ∧ s.calValid = false then .calRd
    else if (w.extractLsb' 2 3 = 3 ∨ w.extractLsb' 2 3 = 4) ∧ s.calValid = true then .tCmd
    else .idle
  | .calRd, .reply (.ok _ _ _) => if s.calIdx = 10 then .idle else .calRd
  | .calRd, .reply .fail => .idle
  | .tCmd, .reply (.ok _ _ _) => .tWait
  | .tCmd, .reply .fail => .idle
  | .tWait, .quiet => if s.delay = 0 then .tRead else .tWait
  | .tRead, .reply (.ok _ _ _) => if s.op = .temp then .comp else .pCmd
  | .tRead, .reply .fail => .idle
  | .pCmd, .reply (.ok _ _ _) => .pWait
  | .pCmd, .reply .fail => .idle
  | .pWait, .quiet => if s.delay = 0 then .pRead else .pWait
  | .pRead, .reply (.ok _ _ _) => .comp
  | .pRead, .reply .fail => .idle
  | .comp, .quiet => .idle
  | q, _ => q

end Sys2Proof.Machine
end

