-- ==== Sys2Proof/Certificates/Slice0/Obligations.lean ====
section
/-! DEFINITION. The statements for the provers. -/

open Sys2Proof Sys2Proof.Machine

/-! ### Words -/

/-- R90, R91, R93 to R96: the bytes of a well-formed instruction decode to it, with every value of its two-bit field. -/
def Obligations.DecodeOfEncodedBytes : Prop :=
  ∀ i : Instr, i.wellFormed = true → decode (encodeBytes i) = .ok i

/-- R90, R95, R96: a word that decodes is the word of its instruction, which is well formed: no word has two readings and no
bit of it is dropped. -/
def Obligations.EncodeOfDecodedWord : Prop :=
  ∀ (w : Word) (i : Instr), decodeWord w = .ok i → i.wellFormed = true ∧ encode i = w

/-- Words written out from R95, R96, R93, and words no row has (R92). That a byte below `0x20` is a host word, that a bus key
is two bytes with the low one first, and that what no row has is rejected by name, is the model's choice (DESIGN CHOICE, log
entry 16): the spec puts the three formats on three interfaces and decodes nothing on the CONTROL side (R90, R93, R101). -/
def Obligations.WrittenWordsDecode : Prop :=
  decode [0b00001110#8] = .ok (.readTemperature 2) ∧
  decode [0b00000111#8] = .ok (.construct 3) ∧
  decode [0b00011101#8] = .ok (.reserved7 1) ∧
  decode [0b00101110#8] = .ok .measT ∧
  decode [0b10110100#8] = .ok (.measP 2) ∧
  decode [0b10110100#8, 0b10#8] = .ok .rdAc6 ∧
  decode [0b11110110#8, 0b11#8] = .ok .rdDataP ∧
  decode [0x6E#8] = .error (.notACommandByte 0x6E) ∧
  decode [0xC0#8, 0b10#8] = .error (.notABusRead 0x2C0)

/-! ### The step -/

/-- A step at which a word is taken up is the meaning of the instruction it decodes to, and nothing around it; a word that no
row has stops the machine; a step at which none is taken up is the block's own move. The second clause is the model's choice
(DESIGN CHOICE, log entry 10): no rule says what the block does in `S_CAL_RD` with `CALIDX` above 10. -/
def Obligations.StepRunsTheDecodedWord : Prop :=
  (∀ (s : State) (w : Word) (i : Instr), s.fetch = some w → decodeWord w = .ok i → step s = exec i s) ∧
  (∀ (s : State) (w : Word) (e : DecodeError),
    s.fetch = some w → decodeWord w = .error e → step s = .fault .noSuchTransaction) ∧
  (∀ s : State, s.fetch = none → step s = .next s.internal)

/-- R141, R151, R153, R154, R156, R210: which word is taken up. That a step takes one event (log entry 1), that a start
request hands its word to the meaning in every state, where the busy ones answer it with nothing (R216; log entries 14 and
18), and that an answer without a transaction takes up no word (log entry 18) is how the model is built. -/
def Obligations.WordTakenUpInEachState : Prop :=
  (∀ (s : State) (w : BitVec 5), s.event = .start w → s.fetch = some (.host w)) ∧
  (∀ s : State, s.event = .quiet ∨ s.event = .tick ∨ s.event = .reset → s.fetch = none) ∧
  (∀ (s : State) (r : Reply), s.event = .reply r →
    (s.seq = .tCmd → s.fetch = some (.ctrl 0x2E)) ∧
    (s.seq = .pCmd → s.fetch = some (.ctrl (s.mode ++ 0x34#6))) ∧
    (s.seq = .tRead → s.fetch = some (.bus 0x2F6)) ∧
    (s.seq = .pRead → s.fetch = some (.bus 0x3F6)) ∧
    (s.seq = .calRd → s.calIdx.toNat ≤ 10 → s.fetch = some (.bus (BitVec.ofNat 10 (0x2AA + 2 * s.calIdx.toNat)))) ∧
    (s.seq = .idle ∨ s.seq = .tWait ∨ s.seq = .pWait ∨ s.seq = .comp → s.fetch = none))

/-- R150: `SEQ` moves as the transition table says, at every step. -/
def Obligations.SequencerFollowsTransitionTable : Prop :=
  ∀ s t : State, step s = .next t → t.seq = s.tableNext

/-- From every state that meets the invariant the machine goes on: it stops with neither a fault nor a refusal. -/
def Obligations.StepNeverStopsUnderInv : Prop :=
  ∀ s : State, s.Inv → ∃ t, step s = .next t

/-! ### Reset and the invariants -/

/-- R39: the seven control bits and `SEQ` right after reset. -/
def Obligations.ControlBitsAfterReset : Prop :=
  State.reset.seq = .idle ∧ State.reset.busy = false ∧ State.reset.done = false ∧ State.reset.err = .ok ∧
  State.reset.calValid = false ∧ State.reset.tValid = false ∧ State.reset.pValid = false

/-- R260, R261: reset, whatever the block was doing, sets the control bits and makes no bus transaction. -/
def Obligations.ResetEventClearsControlBits : Prop :=
  ∀ s : State, s.event = .reset → ∃ t, step s = .next t ∧
    t.seq = .idle ∧ t.busy = false ∧ t.done = false ∧ t.err = .ok ∧ t.calValid = false ∧ t.tValid = false ∧
    t.pValid = false ∧ t.transcript = s.transcript

/-- The invariant of the registers holds at reset. -/
def Obligations.RegisterInvariantAtReset : Prop :=
  State.reset.Inv

/-- Every step keeps the invariant of the registers. -/
def Obligations.RegisterInvariantKept : Prop :=
  ∀ s t : State, s.Inv → step s = .next t → t.Inv

/-- The transcript is legal and respects the delays at reset. -/
def Obligations.BusInvariantsAtReset : Prop :=
  transcriptLegal State.reset.transcript ∧ State.reset.DelayInv

/-- R65, R76: every step keeps the transcript within the accesses the block can make. -/
def Obligations.TranscriptStaysLegal : Prop :=
  ∀ s t : State, transcriptLegal s.transcript → step s = .next t → transcriptLegal t.transcript

/-- R71: every step keeps the delay between a command and its read-back. -/
def Obligations.DelayBeforeReadBackKept : Prop :=
  ∀ s t : State, s.DelayInv → step s = .next t → t.DelayInv

/-- R22, R23: a loaded calibration changes by reset alone. -/
def Obligations.CalibrationImmutable : Prop :=
  ∀ s t : State, s.Inv → s.calValid = true → s.event ≠ .reset → step s = .next t →
    t.cal = s.cal ∧ t.calValid = true

/-- R24: `MODE` is constant while a measurement runs. -/
def Obligations.ModeConstantDuringMeasurement : Prop :=
  ∀ s t : State, s.seq ≠ .idle → s.seq ≠ .calRd → s.event ≠ .reset → step s = .next t → t.mode = s.mode

/-- R92: what a step can write to CONTROL; bits 7:6 of a pressure command are those of `MODE`. -/
def Obligations.OnlyFiveCommandBytes : Prop :=
  ∀ (s t : State) (dev reg val : Byte) (ok : Bool), step s = .next t →
    t.transcript = .write dev reg val ok :: s.transcript →
    reg = 0xF4 ∧
    ((s.seq = .tCmd ∧ val = 0x2E) ∨
     (s.seq = .pCmd ∧ ((s.mode = 0 ∧ val = 0x34) ∨ (s.mode = 1 ∧ val = 0x74) ∨ (s.mode = 2 ∧ val = 0xB4) ∨
       (s.mode = 3 ∧ val = 0xF4))))

/-- R217: an operation that ends at a step, other than by reset, ends with `DONE`, in `S_IDLE`, normally or by an abort; a
result is there only where it ended normally. -/
def Obligations.RunningOperationEnds : Prop :=
  ∀ s t : State, s.Inv → s.busy = true → s.event ≠ .reset → step s = .next t → t.busy = false →
    t.seq = .idle ∧ t.done = true ∧ t.err ≠ .illegalCommand ∧
    (t.err ≠ .ok → t.tValid = false ∧ t.pValid = false)

/-- R103: what the host reads. Without an error a result is read exactly where its valid flag is 1; with one, none. -/
def Obligations.ResponseShowsOnlyValidResults : Prop :=
  (∀ s : State, s.response.resT = (if s.tValid = true then some s.resT else none) ∧
    s.response.resP = (if s.pValid = true then some s.resP else none)) ∧
  (∀ s : State, s.Inv → s.response.err ≠ 0 → s.response.resT = none ∧ s.response.resP = none)

/-- R218, R236, R30, R31: no step in `S_IDLE` or in a CONSTRUCT changes a sample, and no step of a READ_TEMPERATURE changes
`UP`, aborts among them; reset alone does otherwise. -/
def Obligations.SamplesChangeInTheirOperationOnly : Prop :=
  ∀ s t : State, s.Inv → s.event ≠ .reset → step s = .next t →
    (s.seq = .idle ∨ s.op = .construct → t.ut = s.ut ∧ t.up = s.up) ∧ (s.op = .temp → t.up = s.up)

/-! ### Commands of the host -/

/-- R211: an accepted CONSTRUCT, with everything it leaves unchanged. -/
def Obligations.ConstructStarts : Prop :=
  ∀ (mode : Nat) (s : State), s.seq = .idle → s.calValid = false →
    exec (.construct mode) s = .next { s with
      script := s.script.tail, now := s.now + 1, done := false, err := .ok, tValid := false, pValid := false,
      mode := BitVec.ofNat 2 mode, calIdx := 0, op := .construct, busy := true, seq := .calRd }

/-- R212: SET_MODE is the host word with `cmd` = 2; with a calibration held it writes `MODE` and completes in its acceptance
step, without one it is refused; everything else is unchanged. -/
def Obligations.SetModeCompletesAtOnce : Prop :=
  (∀ m : BitVec 2, decodeWord (.host (2#3 ++ m)) = .ok (.setMode m.toNat)) ∧
  (∀ (mode : Nat) (s : State), s.seq = .idle → s.calValid = true →
    exec (.setMode mode) s = .next { s with
      script := s.script.tail, now := s.now + 1, done := true, err := .ok, tValid := false, pValid := false,
      mode := BitVec.ofNat 2 mode }) ∧
  (∀ (mode : Nat) (s : State), s.seq = .idle → s.calValid = false →
    exec (.setMode mode) s = .next { s with
      script := s.script.tail, now := s.now + 1, done := true, err := .illegalCommand, tValid := false, pValid := false })

/-- R213, R214: an accepted READ_TEMPERATURE or READ_PRESSURE; its `mode` bits are ignored. -/
def Obligations.ReadOperationsStart : Prop :=
  ∀ (ignored : Nat) (s : State), s.seq = .idle → s.calValid = true →
    exec (.readTemperature ignored) s = .next { s with
      script := s.script.tail, now := s.now + 1, done := false, err := .ok, tValid := false, pValid := false,
      op := .temp, busy := true, seq := .tCmd } ∧
    exec (.readPressure ignored) s = .next { s with
      script := s.script.tail, now := s.now + 1, done := false, err := .ok, tValid := false, pValid := false,
      op := .press, busy := true, seq := .tCmd }

/-- R215: (a) a reserved code, (b) SET_MODE, READ_TEMPERATURE or READ_PRESSURE without a calibration, (c) CONSTRUCT with one is
answered with `IllegalCommand`, without a bus transaction, and nothing else changes. -/
def Obligations.IllegalCommandsRefused : Prop :=
  ∀ (mode : Nat) (s : State) (i : Instr), s.seq = .idle →
    ((i = .reserved0 mode ∨ i = .reserved5 mode ∨ i = .reserved6 mode ∨ i = .reserved7 mode) ∨
     ((i = .setMode mode ∨ i = .readTemperature mode ∨ i = .readPressure mode) ∧ s.calValid = false) ∨
     (i = .construct mode ∧ s.calValid = true)) →
    exec i s = .next { s with
      script := s.script.tail, now := s.now + 1, done := true, err := .illegalCommand, tValid := false, pValid := false }

/-- R216: a start request while an operation runs has no effect at all; only the event is gone. -/
def Obligations.CommandWhileBusyIgnored : Prop :=
  ∀ (s : State) (w : BitVec 5), s.Inv → s.busy = true → s.event = .start w →
    step s = .next { s with script := s.script.tail, now := s.now + 1 }

/-- The frame of the eight host words, whatever they answer: no word of the host touches the calibration, its flag, the delay,
the samples, the result registers or the bus; only CONSTRUCT and SET_MODE write `MODE`; SET_MODE and the reserved codes leave
`SEQ`, `OP`, `CALIDX` and `BUSY`, and only CONSTRUCT writes `CALIDX`. -/
def Obligations.HostCommandFrame : Prop :=
  ∀ (m : Nat) (s t : State) (i : Instr), exec i s = .next t →
    (i = .construct m ∨ i = .setMode m ∨ i = .readTemperature m ∨ i = .readPressure m ∨
      i = .reserved0 m ∨ i = .reserved5 m ∨ i = .reserved6 m ∨ i = .reserved7 m) →
    t.cal = s.cal ∧ t.calValid = s.calValid ∧ t.delay = s.delay ∧ t.ut = s.ut ∧ t.up = s.up ∧
    t.resT = s.resT ∧ t.resP = s.resP ∧ t.transcript = s.transcript ∧
    (i ≠ .construct m → i ≠ .setMode m → t.mode = s.mode) ∧
    (i ≠ .construct m → t.calIdx = s.calIdx) ∧
    (i ≠ .construct m → i ≠ .readTemperature m → i ≠ .readPressure m →
      t.seq = s.seq ∧ t.op = s.op ∧ t.busy = s.busy)

/-! ### Command writes -/

/-- R151: the temperature command, the same byte for every `MODE`: written with success, with everything it leaves unchanged;
a failure raises `TransportError` and loads no delay. -/
def Obligations.MeasTWritesCommand : Prop :=
  (∀ (s : State) (a b c : Byte), s.event = .reply (.ok a b c) →
    exec .measT s = .next { s with
      script := s.script.tail, now := s.now + 1, delay := 5, seq := .tWait,
      transcript := .write 0x77 0xF4 0x2E true :: s.transcript }) ∧
  (∀ s : State, s.event = .reply .fail →
    ∃ t, exec .measT s = .next t ∧ t.err = .transportError ∧ t.seq = .idle ∧ t.delay = s.delay)

/-- R154: the pressure command, written with success, with everything it leaves unchanged: the byte carries `OSS` in bits 7:6
above `0x34`, the delay is that of `MODE`; a failure raises `TransportError` and loads no delay. R154 gives the byte as a
function of `MODE`; that the meaning takes it from its word, whose `OSS` is `MODE` at every step, is the model's (DEDUCED, log
entry 15). -/
def Obligations.MeasPWritesCommand : Prop :=
  (∀ (s : State) (oss : Nat) (a b c : Byte), s.event = .reply (.ok a b c) →
    exec (.measP oss) s = .next { s with
      script := s.script.tail, now := s.now + 1, seq := .pWait,
      delay := (if s.mode = 0 then 5 else if s.mode = 1 then 5 else if s.mode = 2 then 14 else 26),
      transcript := .write 0x77 0xF4 (BitVec.ofNat 2 oss ++ 0x34#6) true :: s.transcript }) ∧
  (∀ (s : State) (oss : Nat), s.event = .reply .fail →
    ∃ t, exec (.measP oss) s = .next t ∧ t.err = .transportError ∧ t.seq = .idle ∧ t.delay = s.delay)

/-- R158, R236: a command write or a read-back that fails aborts with `TransportError`; nothing else of the step is done. A
failed pressure command or read-back loses `UT`, of which nothing is said then (log entry 7); that the byte of MEAS_P is that
of its word is log entry 15. -/
def Obligations.MeasurementFailureAborts : Prop :=
  ∀ (s : State) (i : Instr) (oss : Nat) (e : BusEntry), s.event = .reply .fail →
    ((i = .measT ∧ e = .write 0x77 0xF4 0x2E false) ∨
     (i = .measP oss ∧ e = .write 0x77 0xF4 (BitVec.ofNat 2 oss ++ 0x34#6) false) ∨
     (i = .rdDataT ∧ e = .read 0x77 0xF6 2 none) ∨
     (i = .rdDataP ∧ e = .read 0x77 0xF6 3 none)) →
    ∃ t, exec i s = .next t ∧ (i = .measT ∨ i = .rdDataT → t.ut = s.ut) ∧
      t = { s with
        script := s.script.tail, now := s.now + 1, ut := t.ut,
        seq := .idle, busy := false, done := true, err := .transportError, transcript := e :: s.transcript }

/-- The frame of the two command writes, whatever the transport answers: only `DELAY`, `SEQ`, the flags `BUSY`, `DONE`, `ERR`
and the bus; where the pressure command fails `UT` too, which is lost (R158, R236, log entry 7). -/
def Obligations.CommandWriteFrame : Prop :=
  ∀ (s t : State) (i : Instr) (oss : Nat), (i = .measT ∨ i = .measP oss) → exec i s = .next t →
    t.cal = s.cal ∧ t.calValid = s.calValid ∧ t.mode = s.mode ∧ t.op = s.op ∧ t.calIdx = s.calIdx ∧
    t.up = s.up ∧ t.resT = s.resT ∧ t.tValid = s.tValid ∧ t.resP = s.resP ∧ t.pValid = s.pValid ∧
    (i = .measT ∨ s.event ≠ .reply .fail → t.ut = s.ut)

/-! ### Reads -/

/-- R141, R143: each coefficient, read with success. Its register holds the big-endian pair, whose signed or unsigned value is
that of the decoding (statement DecodingsReadTheBigEndianPair); the index moves on, and the eleventh completes the load.
Everything else but `SEQ` and the bus is unchanged. -/
def Obligations.CoefficientReadsLoad : Prop :=
  ∀ (s : State) (r0 r1 r2 : Byte), s.event = .reply (.ok r0 r1 r2) →
    let stored := fun (c : Cal) (reg : Byte) (i : BitVec 4) =>
      { s with
        script := s.script.tail, now := s.now + 1, cal := c, calIdx := i, seq := Seq.calRd,
        transcript := BusEntry.read 0x77 reg 2 (some [r0, r1]) :: s.transcript }
    exec .rdAc1 s = .next (stored { s.cal with ac1 := r0 ++ r1 } 0xAA 1) ∧
    exec .rdAc2 s = .next (stored { s.cal with ac2 := r0 ++ r1 } 0xAC 2) ∧
    exec .rdAc3 s = .next (stored { s.cal with ac3 := r0 ++ r1 } 0xAE 3) ∧
    exec .rdAc4 s = .next (stored { s.cal with ac4 := r0 ++ r1 } 0xB0 4) ∧
    exec .rdAc5 s = .next (stored { s.cal with ac5 := r0 ++ r1 } 0xB2 5) ∧
    exec .rdAc6 s = .next (stored { s.cal with ac6 := r0 ++ r1 } 0xB4 6) ∧
    exec .rdB1 s = .next (stored { s.cal with b1 := r0 ++ r1 } 0xB6 7) ∧
    exec .rdB2 s = .next (stored { s.cal with b2 := r0 ++ r1 } 0xB8 8) ∧
    exec .rdMb s = .next (stored { s.cal with mb := r0 ++ r1 } 0xBA 9) ∧
    exec .rdMc s = .next (stored { s.cal with mc := r0 ++ r1 } 0xBC 10) ∧
    exec .rdMd s = .next { s with
      script := s.script.tail, now := s.now + 1, cal := { s.cal with md := r0 ++ r1 }, calValid := true,
      seq := .idle, busy := false, done := true, err := .ok,
      transcript := .read 0x77 0xBE 2 (some [r0, r1]) :: s.transcript }

/-- R142, R236: a coefficient read that fails aborts the construction; `CAL_VALID` stays, no further read is made, and
nothing but `CAL` and `MODE` (of which nothing is said: undefined, log entry 5), `SEQ`, `BUSY`, `DONE`, `ERR` and the bus is
touched. -/
def Obligations.CoefficientReadFailureAborts : Prop :=
  ∀ (s : State) (i : Instr) (reg : Byte), s.event = .reply .fail →
    (i, reg) ∈ [(Instr.rdAc1, 0xAA#8), (.rdAc2, 0xAC#8), (.rdAc3, 0xAE#8), (.rdAc4, 0xB0#8), (.rdAc5, 0xB2#8),
      (.rdAc6, 0xB4#8), (.rdB1, 0xB6#8), (.rdB2, 0xB8#8), (.rdMb, 0xBA#8), (.rdMc, 0xBC#8), (.rdMd, 0xBE#8)] →
    ∃ t, exec i s = .next t ∧
      t = { s with
        script := s.script.tail, now := s.now + 1, cal := t.cal, mode := t.mode,
        seq := .idle, busy := false, done := true, err := .transportError,
        transcript := .read 0x77 reg 2 none :: s.transcript }

/-- The frame of the eleven coefficient reads, whatever the transport answers; of `MODE` only where the read does not
fail (R142, log entry 5). -/
def Obligations.CoefficientReadFrame : Prop :=
  ∀ (s t : State) (i : Instr),
    i ∈ [Instr.rdAc1, .rdAc2, .rdAc3, .rdAc4, .rdAc5, .rdAc6, .rdB1, .rdB2, .rdMb, .rdMc, .rdMd] →
    exec i s = .next t →
    t.op = s.op ∧ t.delay = s.delay ∧ t.ut = s.ut ∧ t.up = s.up ∧ t.resT = s.resT ∧ t.tValid = s.tValid ∧
    t.resP = s.resP ∧ t.pValid = s.pValid ∧ (i ≠ .rdMd → t.calValid = s.calValid) ∧
    (s.event ≠ .reply .fail → t.mode = s.mode)

/-- R153, R99: the temperature read-back, with everything it leaves unchanged; a failure raises `TransportError` and writes no
sample (R158). -/
def Obligations.TemperatureReadBack : Prop :=
  (∀ (s : State) (r0 r1 r2 : Byte), s.event = .reply (.ok r0 r1 r2) →
    exec .rdDataT s = .next { s with
      script := s.script.tail, now := s.now + 1, ut := r0 ++ r1,
      seq := (if s.op = .temp then .comp else .pCmd),
      transcript := .read 0x77 0xF6 2 (some [r0, r1]) :: s.transcript }) ∧
  (∀ s : State, s.event = .reply .fail →
    exec .rdDataT s = .next { s with
      script := s.script.tail, now := s.now + 1, seq := .idle, busy := false, done := true, err := .transportError,
      transcript := .read 0x77 0xF6 2 none :: s.transcript })

/-- R156, R100, R31: the pressure read-back. `UP` is the 24-bit number shifted right by `8 - MODE`, exactly, and it is below
`2 ^ (16 + MODE)`; everything else but `SEQ` and the bus is unchanged. A failure raises `TransportError`, writes no
sample, and loses that of the temperature, of which nothing is said then (R158, log entry 7). -/
def Obligations.PressureReadBack : Prop :=
  (∀ (s : State) (r0 r1 r2 : Byte), s.event = .reply (.ok r0 r1 r2) → ∃ up : BitVec 19,
    up.toNat = (r0.toNat * 65536 + r1.toNat * 256 + r2.toNat) / 2 ^ (8 - s.mode.toNat) ∧
    up.toNat < 2 ^ (16 + s.mode.toNat) ∧
    exec .rdDataP s = .next { s with
      script := s.script.tail, now := s.now + 1, up := up, seq := .comp,
      transcript := .read 0x77 0xF6 3 (some [r0, r1, r2]) :: s.transcript }) ∧
  (∀ s : State, s.event = .reply .fail →
    ∃ t, exec .rdDataP s = .next t ∧
      t = { s with
        script := s.script.tail, now := s.now + 1, ut := t.ut,
        seq := .idle, busy := false, done := true, err := .transportError,
        transcript := .read 0x77 0xF6 3 none :: s.transcript })

/-- The frame of the two read-backs, whatever the transport answers; where the pressure read fails the temperature sample is lost
(R158, R236, log entry 7). -/
def Obligations.ReadBackFrame : Prop :=
  ∀ (s t : State) (i : Instr), (i = .rdDataT ∨ i = .rdDataP) → exec i s = .next t →
    t.cal = s.cal ∧ t.calValid = s.calValid ∧ t.mode = s.mode ∧ t.op = s.op ∧ t.calIdx = s.calIdx ∧
    t.delay = s.delay ∧ t.resT = s.resT ∧ t.tValid = s.tValid ∧ t.resP = s.resP ∧ t.pValid = s.pValid ∧
    (i = .rdDataT ∨ s.event = .reply .fail → t.up = s.up) ∧
    (i = .rdDataP → s.event ≠ .reply .fail → t.ut = s.ut) ∧ (i = .rdDataT → s.event = .reply .fail → t.ut = s.ut)

/-- R270: until the transport returns, the block stays in its bus state, and until a command comes it stays in `S_IDLE`: a
step changes nothing but that the event is taken. (What an event is, and that a step takes one, is the model's: log entry 1.) -/
def Obligations.TransactionWaitsForTransport : Prop :=
  (∀ s : State, (s.seq = .calRd ∨ s.seq = .tCmd ∨ s.seq = .tRead ∨ s.seq = .pCmd ∨ s.seq = .pRead) →
    (s.event = .quiet ∨ s.event = .tick ∨ ∃ w, s.event = .start w) →
    step s = .next { s with script := s.script.tail, now := s.now + 1 }) ∧
  (∀ s : State, s.seq = .idle → (s.event = .quiet ∨ s.event = .tick) →
    step s = .next { s with script := s.script.tail, now := s.now + 1 })

/-! ### The block's own moves -/

/-- R159: a tick counts `DELAY` down in a waiting state while it is above 0, and changes nothing in every other situation. -/
def Obligations.TickCountsDelayDown : Prop :=
  ∀ s : State, s.event = .tick →
    ((s.seq = .tWait ∨ s.seq = .pWait) ∧ 0 < s.delay.toNat → ∃ d : BitVec 5, d.toNat = s.delay.toNat - 1 ∧
      step s = .next { s with
        script := s.script.tail, now := s.now + 1, delay := d, transcript := .wait :: s.transcript }) ∧
    (¬ ((s.seq = .tWait ∨ s.seq = .pWait) ∧ 0 < s.delay.toNat) →
      step s = .next { s with script := s.script.tail, now := s.now + 1 })

/-- R152, R155: a waiting state is left for its read-back, with no bus transaction, when `DELAY` is 0, and not before. -/
def Obligations.WaitingStateLeftAtZero : Prop :=
  ∀ s : State, s.event = .quiet →
    (s.seq = .tWait → s.delay = 0 →
      step s = .next { s with script := s.script.tail, now := s.now + 1, seq := .tRead }) ∧
    (s.seq = .pWait → s.delay = 0 →
      step s = .next { s with script := s.script.tail, now := s.now + 1, seq := .pRead }) ∧
    (s.seq = .tWait ∨ s.seq = .pWait → s.delay ≠ 0 →
      step s = .next { s with script := s.script.tail, now := s.now + 1 })

/-- R157, R171 to R175, R235: a READ_TEMPERATURE delivers the temperature its sample and the calibration give, floor by
floor, with everything it leaves unchanged. -/
def Obligations.TemperatureDelivered : Prop :=
  ∀ (s : State) (x1 x2 : Int), s.event = .quiet → s.seq = .comp → s.op = .temp →
    x1 = ((s.ut.toNat : Int) - (s.cal.ac6.toNat : Int)) * (s.cal.ac5.toNat : Int) / 32768 →
    x1 + s.cal.md.toInt ≠ 0 →
    x2 = Int.fdiv (s.cal.mc.toInt * 2048) (x1 + s.cal.md.toInt) →
    ∃ r : BitVec 32, r.toInt = (x1 + x2 + 8) / 16 ∧
      step s = .next { s with
        script := s.script.tail, now := s.now + 1, resT := r, tValid := true,
        seq := .idle, busy := false, done := true, err := .ok }

/-- R157, R171 to R204, R235: a READ_PRESSURE delivers the pressure its samples, the calibration and the mode give, in the
spec's default form (`B3_ABS` true, `SQ_FORM` FULL, `W_DP` 64), exactly; everything else is unchanged, `RES_T` among it. -/
def Obligations.PressureDelivered : Prop :=
  ∀ (s : State) (x1 b5 b6 b62 b3 x3 b4 b7 p r1 r2 : Int),
    s.event = .quiet → s.seq = .comp → s.op = .press →
    x1 = ((s.ut.toNat : Int) - (s.cal.ac6.toNat : Int)) * (s.cal.ac5.toNat : Int) / 32768 →
    x1 + s.cal.md.toInt ≠ 0 →
    b5 = x1 + Int.fdiv (s.cal.mc.toInt * 2048) (x1 + s.cal.md.toInt) →
    b6 = b5 - 4000 →
    b62 = b6 * b6 / 4096 →
    b3 = (((s.cal.ac1.toInt * 4 + (s.cal.b2.toInt * b62 / 2048 + s.cal.ac2.toInt * b6 / 2048)).natAbs : Int) *
      2 ^ s.mode.toNat + 2) / 4 →
    x3 = (s.cal.ac3.toInt * b6 / 8192 + s.cal.b1.toInt * b62 / 65536 + 2) / 4 →
    b4 = (s.cal.ac4.toNat : Int) * (x3 + 32768) / 32768 →
    b4 ≠ 0 →
    b7 = ((s.up.toNat : Int) - b3) * (50000 / 2 ^ s.mode.toNat) →
    p = (if b7 < 0x80000000 then Int.fdiv (b7 * 2) b4 else Int.fdiv b7 b4 * 2) →
    p * p ≤ 9223372036854775807 →
    r1 = p * p / 65536 * 3038 / 65536 →
    r2 = -7357 * p / 65536 →
    ∃ r : BitVec 64, r.toInt = p + (r1 + r2 + 3791) / 16 ∧
      step s = .next { s with
        script := s.script.tail, now := s.now + 1, resP := r, pValid := true,
        seq := .idle, busy := false, done := true, err := .ok }

/-- R172, R197, R205, R232: a zero divisor aborts with `ArithmeticError` and writes no result: that of the temperature path
for either operation, that of the pressure path for a READ_PRESSURE. `UT`, and for a READ_PRESSURE `UP`, is
lost and nothing is said of it (R218, R236, log entry 7). -/
def Obligations.ZeroDivisorAborts : Prop :=
  ∀ s : State, s.event = .quiet → s.seq = .comp →
    (den s.cal s.ut = 0 ∨ (s.op ≠ .temp ∧ b4 s.cal (b5 s.cal s.ut) = 0)) →
    ∃ t, step s = .next t ∧ (s.op = .temp → t.up = s.up) ∧
      t = { s with
        script := s.script.tail, now := s.now + 1, ut := t.ut, up := t.up,
        seq := .idle, busy := false, done := true, err := .arithmeticError }

/-- R200, R205, R233: a square outside the signed 64-bit range aborts with `RangeFault`, after the two divisor tests, and
writes no result. `UT` and `UP` are lost and nothing is said of them (R236, log entry 7). -/
def Obligations.WideSquareAborts : Prop :=
  ∀ (s : State) (p : Int), s.event = .quiet → s.seq = .comp → s.op ≠ .temp →
    den s.cal s.ut ≠ 0 → b4 s.cal (b5 s.cal s.ut) ≠ 0 →
    p = p0 engine s.cal (b5 s.cal s.ut) (s.up.toNat : Int) s.mode.toNat →
    3037000500 ≤ p.natAbs →
    ∃ t, step s = .next t ∧
      t = { s with
        script := s.script.tail, now := s.now + 1, ut := t.ut, up := t.up,
        seq := .idle, busy := false, done := true, err := .rangeFault }

/-! ### The engine -/

/-- R145: the two decodings are the signed and the unsigned reading of the big-endian pair, the 16-bit register holds them
without loss, and each is a bijection between the byte pairs and its range. -/
def Obligations.DecodingsReadTheBigEndianPair : Prop :=
  (∀ hi lo : Byte,
    decodeSigned16 hi lo = (BitVec.ofNat 16 (hi.toNat * 256 + lo.toNat)).toInt ∧
    decodeUnsigned16 hi lo = hi.toNat * 256 + lo.toNat ∧
    signedCoefficient hi lo = hi ++ lo ∧ unsignedCoefficient hi lo = hi ++ lo ∧
    (hi ++ lo : BitVec 16).toInt = decodeSigned16 hi lo ∧ (hi ++ lo : BitVec 16).toNat = decodeUnsigned16 hi lo) ∧
  (∀ v : Int, -32768 ≤ v → v ≤ 32767 → ∃! p : Byte × Byte, decodeSigned16 p.1 p.2 = v) ∧
  (∀ v : Nat, v ≤ 65535 → ∃! p : Byte × Byte, decodeUnsigned16 p.1 p.2 = v)

/-- R122, R123, R124: `shl` is exact, `asr` is the greatest integer below, `fdiv` is the quotient whose remainder has the
sign of the divisor. -/
def Obligations.PrimitivesAreFloors : Prop :=
  (∀ (v : Int) (n : Nat), shl v n = v * 2 ^ n) ∧
  (∀ (v : Int) (n : Nat), asr v n * 2 ^ n ≤ v ∧ v < (asr v n + 1) * 2 ^ n) ∧
  (∀ a b r : Int, b ≠ 0 → r = a - fdiv a b * b → (0 < b → 0 ≤ r ∧ r < b) ∧ (b < 0 → b < r ∧ r ≤ 0))

/-- R128: floor division from a truncating divider: one less where the remainder is not 0 and has another sign than the
divisor. -/
def Obligations.FloorFromTruncatingDivider : Prop :=
  ∀ a b q r : Int, b ≠ 0 → q = Int.tdiv a b → r = a - q * b →
    fdiv a b = (if r ≠ 0 ∧ ((r < 0 ∧ 0 < b) ∨ (0 < r ∧ b < 0)) then q - 1 else q)

/-- R196: `b7` is the signed product of `UP - b3` and `k`, and a multiple of 3125, so it is never `2 ^ 31`, the boundary of
R198. -/
def Obligations.ThresholdNeverReached : Prop :=
  ∀ (g : Config.Engine) (c : Cal) (b5v up : Int) (oss : Nat), oss ≤ 3 →
    b7 g c b5v up oss = (up - b3 g c b5v oss) * (50000 / 2 ^ oss) ∧
    3125 ∣ b7 g c b5v up oss ∧ b7 g c b5v up oss ≠ 2147483648

/-- R127, every row of its table: for every calibration, sample and mode with divisors other than 0 the values of the engine,
products before their shifts among them, stay below the bounds of the table, those after `p0` where the test of R200 passes.
(The forms `B3_ABS` true and `SQ_FORM` FULL are the spec's defaults, log entry 11.) -/
def Obligations.EngineValuesFitDatapath : Prop :=
  ∀ (c : Cal) (ut : BitVec 16) (up : Nat) (oss : Nat), oss ≤ 3 → up < 2 ^ (16 + oss) →
    den c ut ≠ 0 → b4 c (b5 c ut) ≠ 0 →
    (((ut.toNat : Int) - (c.ac6.toNat : Int)) * (c.ac5.toNat : Int)).natAbs < 2 ^ 32 ∧
    (shl c.mc.toInt 11).natAbs ≤ 2 ^ 26 ∧ (b6 (b5 c ut) * b6 (b5 c ut)).natAbs < 2 ^ 53 ∧
    (c.b2.toInt * b62 (b5 c ut)).natAbs < 2 ^ 56 ∧ (c.b1.toInt * b62 (b5 c ut)).natAbs < 2 ^ 56 ∧
    (c.ac2.toInt * b6 (b5 c ut)).natAbs < 2 ^ 42 ∧ (c.ac3.toInt * b6 (b5 c ut)).natAbs < 2 ^ 42 ∧
    (shl (sa engine c (b5 c ut)) oss).natAbs < 2 ^ 48 ∧
    ((c.ac4.toNat : Int) * (qx3 c (b5 c ut) + 32768)).natAbs < 2 ^ 54 ∧
    (b7 engine c (b5 c ut) up oss * 2).natAbs < 2 ^ 59 ∧
    (tx1 c ut).natAbs ≤ 131069 ∧ (den c ut).natAbs ≤ 163837 ∧ (tx2 c ut).natAbs ≤ 2 ^ 26 ∧
    (b5 c ut).natAbs ≤ 67239933 ∧ (temperature (b5 c ut)).natAbs ≤ 4202496 ∧
    (b6 (b5 c ut)).natAbs ≤ 67243933 ∧ (b62 (b5 c ut)).natAbs < 2 ^ 41 ∧
    (px1 c (b5 c ut)).natAbs < 2 ^ 45 ∧ (px2 c (b5 c ut)).natAbs < 2 ^ 31 ∧
    (px3 c (b5 c ut)).natAbs < 2 ^ 45 ∧ (sSum c (b5 c ut)).natAbs < 2 ^ 45 ∧ (sa engine c (b5 c ut)).natAbs < 2 ^ 45 ∧
    (b3 engine c (b5 c ut) oss).natAbs < 2 ^ 46 ∧ (qx1 c (b5 c ut)).natAbs < 2 ^ 29 ∧
    (qx2 c (b5 c ut)).natAbs < 2 ^ 40 ∧ (qx3 c (b5 c ut)).natAbs < 2 ^ 38 ∧ (b4 c (b5 c ut)).natAbs < 2 ^ 39 ∧
    (b7 engine c (b5 c ut) up oss).natAbs < 2 ^ 58 ∧ (p0 engine c (b5 c ut) up oss).natAbs < 2 ^ 59 ∧
    (p0 engine c (b5 c ut) up oss * p0 engine c (b5 c ut) up oss).natAbs < 2 ^ 118 ∧
    (squareOverflows engine (p0 engine c (b5 c ut) up oss) = false →
      (p0 engine c (b5 c ut) up oss * p0 engine c (b5 c ut) up oss).natAbs < 2 ^ 63 ∧
      (rx1 engine (p0 engine c (b5 c ut) up oss)).natAbs < 2 ^ 47 ∧
      (rx1 engine (p0 engine c (b5 c ut) up oss) * 3038).natAbs < 2 ^ 59 ∧
      (rx2 engine (p0 engine c (b5 c ut) up oss)).natAbs < 2 ^ 43 ∧
      (-7357 * p0 engine c (b5 c ut) up oss).natAbs < 2 ^ 45 ∧
      (rx3 (p0 engine c (b5 c ut) up oss)).natAbs < 2 ^ 29 ∧
      (rx2 engine (p0 engine c (b5 c ut) up oss) + rx3 (p0 engine c (b5 c ut) up oss) + 3791).natAbs < 2 ^ 44 ∧
      (pressure engine (p0 engine c (b5 c ut) up oss)).natAbs < 2 ^ 40)

/-- R170, R180, R38: what the engine's results do not depend on: `COMP_T` on five coefficients, `mb` and `MODE`; `COMP_P` on
`mb`, and on `ac5`, `ac6`, `mc`, `md` but through `b5`. -/
def Obligations.UnusedInputsDoNotMatter : Prop :=
  (∀ (c d : Cal) (ut : BitVec 16), c.ac5 = d.ac5 → c.ac6 = d.ac6 → c.mc = d.mc → c.md = d.md →
    compT c ut = compT d ut) ∧
  (∀ (g : Config.Engine) (c d : Cal) (b5v up : Int) (oss : Nat), c.ac1 = d.ac1 → c.ac2 = d.ac2 → c.ac3 = d.ac3 →
    c.ac4 = d.ac4 → c.b1 = d.b1 → c.b2 = d.b2 → compP g c b5v up oss = compP g d b5v up oss)

/-! ### Whole operations -/

/-- R144, R211, R263: a CONSTRUCT answered by eleven successful reads, from any state in `S_IDLE` without a calibration: after
twelve steps the calibration is the eleven pairs, and the transcript has grown by the eleven reads, newest first. -/
def Obligations.ConstructLoadsCalibration : Prop :=
  ∀ (s : State) (m : BitVec 2) (r : Fin 11 → Byte × Byte) (rest : List Event),
    s.seq = .idle → s.calValid = false →
    s.script = .start (1#3 ++ m) :: ((List.ofFn fun k => Event.reply (.ok (r k).1 (r k).2 0)) ++ rest) →
    Host.Core.run Sys2Proof.core 12 s = .next { s with
      script := rest, now := s.now + 12, mode := m, op := .construct, calIdx := 10, calValid := true,
      tValid := false, pValid := false, seq := .idle, busy := false, done := true, err := .ok,
      cal := ⟨(r 0).1 ++ (r 0).2, (r 1).1 ++ (r 1).2, (r 2).1 ++ (r 2).2, (r 3).1 ++ (r 3).2, (r 4).1 ++ (r 4).2,
        (r 5).1 ++ (r 5).2, (r 6).1 ++ (r 6).2, (r 7).1 ++ (r 7).2, (r 8).1 ++ (r 8).2, (r 9).1 ++ (r 9).2,
        (r 10).1 ++ (r 10).2⟩,
      transcript :=
        (List.ofFn fun k : Fin 11 =>
          BusEntry.read 0x77 (BitVec.ofNat 8 (0xAA + 2 * k.val)) 2 (some [(r k).1, (r k).2])).reverse ++ s.transcript }

/-- R142, R144: a CONSTRUCT whose read number `j` fails, from any state in `S_IDLE` without a calibration: `j + 1` reads are
made and no more, the operation ends with `TransportError`, and no calibration is held. -/
def Obligations.ConstructFailsAtAnyRead : Prop :=
  ∀ (s : State) (m : BitVec 2) (l : List (Byte × Byte)) (rest : List Event),
    s.seq = .idle → s.calValid = false → l.length ≤ 10 →
    s.script = .start (1#3 ++ m) :: ((l.map fun p => Event.reply (.ok p.1 p.2 0)) ++ Event.reply .fail :: rest) →
    ∃ t : State, Host.Core.run Sys2Proof.core (l.length + 2) s = .next t ∧
      t.seq = .idle ∧ t.busy = false ∧ t.done = true ∧ t.err = .transportError ∧ t.calValid = false ∧
      t.tValid = false ∧ t.pValid = false ∧ t.script = rest ∧
      t.transcript =
        .read 0x77 (BitVec.ofNat 8 (0xAA + 2 * l.length)) 2 none ::
          ((l.zipIdx.map fun q =>
            BusEntry.read 0x77 (BitVec.ofNat 8 (0xAA + 2 * q.2)) 2 (some [q.1.1, q.1.2])).reverse ++ s.transcript)

/-- R161, R213, R272: a READ_TEMPERATURE from any state in `S_IDLE` with a calibration, its transactions answered and five
ticks come: ten steps, the transcript of R161, and the temperature of the sample, or `ArithmeticError` with no result and the
sample lost (log entry 7). The transactions that fail are in TemperatureTransactionFailures. -/
def Obligations.ReadTemperatureAsOneStep : Prop :=
  ∀ (s : State) (ignored : BitVec 2) (w0 w1 w2 h l x : Byte) (rest : List Event),
    s.seq = .idle → s.calValid = true →
    s.script = .start (3#3 ++ ignored) :: .reply (.ok w0 w1 w2) ::
      (List.replicate 5 Event.tick ++ .quiet :: .reply (.ok h l x) :: .quiet :: rest) →
    ∃ t : State, Host.Core.run Sys2Proof.core 10 s = .next t ∧
      t.script = rest ∧ t.seq = .idle ∧ t.busy = false ∧ t.done = true ∧ t.pValid = false ∧
      t.cal = s.cal ∧ t.calValid = true ∧ t.mode = s.mode ∧ t.up = s.up ∧ t.resP = s.resP ∧
      t.transcript = .read 0x77 0xF6 2 (some [h, l]) ::
        (List.replicate 5 BusEntry.wait ++ .write 0x77 0xF4 0x2E true :: s.transcript) ∧
      (match compT s.cal (h ++ l) with
       | .ok v => t.err = .ok ∧ t.tValid = true ∧ t.resT.toInt = v.2 ∧ t.ut = h ++ l
       | .error e => t.err = e ∧ t.tValid = false ∧ t.resT = s.resT)

/-- R161, R162, R214, R272: a READ_PRESSURE from any state in `S_IDLE` with a calibration, its transactions answered and the
ticks of both waits come: `13 + P_DELAY_MS[MODE]` steps, the transcript of R161 and R162, and the pressure of the two samples,
or the error the engine raises with no result and the samples lost (log entry 7). The transactions that fail are in
TemperatureTransactionFailures and PressureTransactionFailures. -/
def Obligations.ReadPressureAsOneStep : Prop :=
  ∀ (s : State) (ignored : BitVec 2) (w0 w1 w2 h l x v0 v1 v2 a b c : Byte) (d up : Nat) (rest : List Event),
    s.seq = .idle → s.calValid = true →
    d = (if s.mode = 3 then 26 else if s.mode = 2 then 14 else 5) →
    up = (a.toNat * 65536 + b.toNat * 256 + c.toNat) / 2 ^ (8 - s.mode.toNat) →
    s.script = .start (4#3 ++ ignored) :: .reply (.ok w0 w1 w2) ::
      (List.replicate 5 Event.tick ++ .quiet :: .reply (.ok h l x) :: .reply (.ok v0 v1 v2) ::
        (List.replicate d Event.tick ++ .quiet :: .reply (.ok a b c) :: .quiet :: rest)) →
    ∃ t : State, Host.Core.run Sys2Proof.core (13 + d) s = .next t ∧
      t.script = rest ∧ t.seq = .idle ∧ t.busy = false ∧ t.done = true ∧ t.tValid = false ∧ t.resT = s.resT ∧
      t.cal = s.cal ∧ t.calValid = true ∧ t.mode = s.mode ∧
      t.transcript = .read 0x77 0xF6 3 (some [a, b, c]) ::
        (List.replicate d BusEntry.wait ++ .write 0x77 0xF4 (s.mode ++ 0x34#6) true ::
          .read 0x77 0xF6 2 (some [h, l]) ::
          (List.replicate 5 BusEntry.wait ++ .write 0x77 0xF4 0x2E true :: s.transcript)) ∧
      (match compT s.cal (h ++ l) with
       | .error e => t.err = e ∧ t.pValid = false ∧ t.resP = s.resP
       | .ok v =>
         match compP engine s.cal v.1 (up : Int) s.mode.toNat with
         | .error e => t.err = e ∧ t.pValid = false ∧ t.resP = s.resP
         | .ok q => t.err = .ok ∧ t.pValid = true ∧ t.resP.toInt = q ∧ t.ut = h ++ l ∧ t.up.toNat = up)

/-- R161, R158, R236: MEAS_T as one big step whose command write or read-back fails, in a READ_TEMPERATURE (`press` false) or a
READ_PRESSURE (true), from any state in `S_IDLE` with a calibration: no wait and no read after a failed write, nothing after
a failed read, `TransportError`, no result, and everything else as it was: no sample has been taken (R158, R218). -/
def Obligations.TemperatureTransactionFailures : Prop :=
  ∀ (s : State) (press : Bool) (ignored : BitVec 2) (w0 w1 w2 : Byte) (rest : List Event),
    s.seq = .idle → s.calValid = true →
    (s.script = .start ((if press then 4#3 else 3#3) ++ ignored) :: .reply .fail :: rest →
      Host.Core.run Sys2Proof.core 2 s = .next { s with
          script := rest, now := s.now + 2, op := (if press then .press else .temp),
          tValid := false, pValid := false, seq := .idle, busy := false, done := true, err := .transportError,
          transcript := .write 0x77 0xF4 0x2E false :: s.transcript }) ∧
    (s.script = .start ((if press then 4#3 else 3#3) ++ ignored) :: .reply (.ok w0 w1 w2) ::
        (List.replicate 5 Event.tick ++ .quiet :: .reply .fail :: rest) →
      Host.Core.run Sys2Proof.core 9 s = .next { s with
          script := rest, now := s.now + 9, op := (if press then .press else .temp), delay := 0,
          tValid := false, pValid := false, seq := .idle, busy := false, done := true, err := .transportError,
          transcript := .read 0x77 0xF6 2 none ::
            (List.replicate 5 BusEntry.wait ++ .write 0x77 0xF4 0x2E true :: s.transcript) })

/-- R162, R161, R158, R236: MEAS_P as one big step whose command write or read-back fails, in a READ_PRESSURE whose temperature
sample was taken, from any state in `S_IDLE` with a calibration: no wait and no read after a failed write, nothing after a
failed read, `TransportError`, no result, and everything else as it was but the temperature sample, which is lost (R158, log
entry 7). -/
def Obligations.PressureTransactionFailures : Prop :=
  ∀ (s : State) (ignored : BitVec 2) (w0 w1 w2 h l x v0 v1 v2 : Byte) (d : Nat) (rest : List Event),
    s.seq = .idle → s.calValid = true →
    d = (if s.mode = 3 then 26 else if s.mode = 2 then 14 else 5) →
    (s.script = .start (4#3 ++ ignored) :: .reply (.ok w0 w1 w2) ::
        (List.replicate 5 Event.tick ++ .quiet :: .reply (.ok h l x) :: .reply .fail :: rest) →
      ∃ t : State, Host.Core.run Sys2Proof.core 10 s = .next t ∧
        t = { s with
          script := rest, now := s.now + 10, op := .press, delay := 0, ut := t.ut,
          tValid := false, pValid := false, seq := .idle, busy := false, done := true, err := .transportError,
          transcript := .write 0x77 0xF4 (s.mode ++ 0x34#6) false :: .read 0x77 0xF6 2 (some [h, l]) ::
            (List.replicate 5 BusEntry.wait ++ .write 0x77 0xF4 0x2E true :: s.transcript) }) ∧
    (s.script = .start (4#3 ++ ignored) :: .reply (.ok w0 w1 w2) ::
        (List.replicate 5 Event.tick ++ .quiet :: .reply (.ok h l x) :: .reply (.ok v0 v1 v2) ::
          (List.replicate d Event.tick ++ .quiet :: .reply .fail :: rest)) →
      ∃ t : State, Host.Core.run Sys2Proof.core (12 + d) s = .next t ∧
        t = { s with
          script := rest, now := s.now + 12 + d, op := .press, delay := 0, ut := t.ut,
          tValid := false, pValid := false, seq := .idle, busy := false, done := true, err := .transportError,
          transcript := .read 0x77 0xF6 3 none ::
            (List.replicate d BusEntry.wait ++ .write 0x77 0xF4 (s.mode ++ 0x34#6) true ::
              .read 0x77 0xF6 2 (some [h, l]) ::
              (List.replicate 5 BusEntry.wait ++ .write 0x77 0xF4 0x2E true :: s.transcript)) })
end

