-- ==== Sys2Proof/Laws/Datapath.lean ====
section
/-! SUPPORT. The datapath primitives and the byte concatenation in the terms the decision procedures know. -/

namespace Sys2Proof.Machine

/-- The arithmetic shift as integer division by a power of two, which is positive. -/
theorem asr_eq_ediv (v : Int) (n : Nat) : asr v n = v / 2 ^ n := by
  unfold asr
  rw [Int.fdiv_eq_ediv_of_nonneg _ (by positivity)]
  norm_num

/-- The left shift as a product. -/
theorem shl_eq_mul (v : Int) (n : Nat) : shl v n = v * 2 ^ n := by
  simp [shl]

/-- The absolute value as that of the integers. -/
theorem absolute_eq_natAbs (v : Int) : absolute v = (v.natAbs : Int) := by
  unfold absolute
  split <;> omega

/-- Floor division does not grow a magnitude (R124). -/
theorem fdiv_natAbs_le (a b : Int) : (fdiv a b).natAbs ≤ a.natAbs := by
  have pos : ∀ x y : Int, 0 ≤ y → (Int.fdiv x y).natAbs ≤ x.natAbs := fun x y hy => by
    rw [Int.fdiv_eq_ediv_of_nonneg x hy]
    exact Int.natAbs_ediv_le_natAbs x y
  unfold fdiv
  rcases le_total 0 b with h | h
  · exact pos a b h
  · have h' := pos (-a) (-b) (by omega)
    rwa [Int.neg_fdiv_neg, Int.natAbs_neg] at h'

/-- Two bytes, the high one first, as a number (R64). -/
theorem append_toNat (hi lo : Byte) : (hi ++ lo : BitVec 16).toNat = hi.toNat * 256 + lo.toNat := by
  have h := lo.isLt
  rw [BitVec.toNat_append, Nat.shiftLeft_eq, Nat.mul_comm, ← Nat.two_pow_add_eq_or_of_lt h]

end Sys2Proof.Machine
end

