-- ==== Sys2Proof/Laws/State.lean ====
section
/-! SUPPORT. What each named update of the state does to each field: one lemma per field per update, so that no later proof
unfolds a record update. -/

namespace Sys2Proof.Machine

section ClearFlags

variable (s : State)

@[simp] theorem State.clearFlags_cal : (s.clearFlags).cal = s.cal := rfl
@[simp] theorem State.clearFlags_calValid : (s.clearFlags).calValid = s.calValid := rfl
@[simp] theorem State.clearFlags_mode : (s.clearFlags).mode = s.mode := rfl
@[simp] theorem State.clearFlags_seq : (s.clearFlags).seq = s.seq := rfl
@[simp] theorem State.clearFlags_op : (s.clearFlags).op = s.op := rfl
@[simp] theorem State.clearFlags_calIdx : (s.clearFlags).calIdx = s.calIdx := rfl
@[simp] theorem State.clearFlags_delay : (s.clearFlags).delay = s.delay := rfl
@[simp] theorem State.clearFlags_ut : (s.clearFlags).ut = s.ut := rfl
@[simp] theorem State.clearFlags_up : (s.clearFlags).up = s.up := rfl
@[simp] theorem State.clearFlags_resT : (s.clearFlags).resT = s.resT := rfl
@[simp] theorem State.clearFlags_tValid : (s.clearFlags).tValid = false := rfl
@[simp] theorem State.clearFlags_resP : (s.clearFlags).resP = s.resP := rfl
@[simp] theorem State.clearFlags_pValid : (s.clearFlags).pValid = false := rfl
@[simp] theorem State.clearFlags_busy : (s.clearFlags).busy = s.busy := rfl
@[simp] theorem State.clearFlags_done : (s.clearFlags).done = false := rfl
@[simp] theorem State.clearFlags_err : (s.clearFlags).err = .ok := rfl
@[simp] theorem State.clearFlags_script : (s.clearFlags).script = s.script := rfl
@[simp] theorem State.clearFlags_now : (s.clearFlags).now = s.now := rfl
@[simp] theorem State.clearFlags_transcript : (s.clearFlags).transcript = s.transcript := rfl

end ClearFlags

section BusyFlags

variable (s : State)

@[simp] theorem State.busyFlags_cal : (s.busyFlags).cal = s.cal := rfl
@[simp] theorem State.busyFlags_calValid : (s.busyFlags).calValid = s.calValid := rfl
@[simp] theorem State.busyFlags_mode : (s.busyFlags).mode = s.mode := rfl
@[simp] theorem State.busyFlags_seq : (s.busyFlags).seq = s.seq := rfl
@[simp] theorem State.busyFlags_op : (s.busyFlags).op = s.op := rfl
@[simp] theorem State.busyFlags_calIdx : (s.busyFlags).calIdx = s.calIdx := rfl
@[simp] theorem State.busyFlags_delay : (s.busyFlags).delay = s.delay := rfl
@[simp] theorem State.busyFlags_ut : (s.busyFlags).ut = s.ut := rfl
@[simp] theorem State.busyFlags_up : (s.busyFlags).up = s.up := rfl
@[simp] theorem State.busyFlags_resT : (s.busyFlags).resT = s.resT := rfl
@[simp] theorem State.busyFlags_tValid : (s.busyFlags).tValid = s.tValid := rfl
@[simp] theorem State.busyFlags_resP : (s.busyFlags).resP = s.resP := rfl
@[simp] theorem State.busyFlags_pValid : (s.busyFlags).pValid = s.pValid := rfl
@[simp] theorem State.busyFlags_busy : (s.busyFlags).busy = true := rfl
@[simp] theorem State.busyFlags_done : (s.busyFlags).done = s.done := rfl
@[simp] theorem State.busyFlags_err : (s.busyFlags).err = s.err := rfl
@[simp] theorem State.busyFlags_script : (s.busyFlags).script = s.script := rfl
@[simp] theorem State.busyFlags_now : (s.busyFlags).now = s.now := rfl
@[simp] theorem State.busyFlags_transcript : (s.busyFlags).transcript = s.transcript := rfl

end BusyFlags

section EndFlags

variable (s : State) (e : ErrCode)

@[simp] theorem State.endFlags_cal : (s.endFlags e).cal = s.cal := rfl
@[simp] theorem State.endFlags_calValid : (s.endFlags e).calValid = s.calValid := rfl
@[simp] theorem State.endFlags_mode : (s.endFlags e).mode = s.mode := rfl
@[simp] theorem State.endFlags_seq : (s.endFlags e).seq = s.seq := rfl
@[simp] theorem State.endFlags_op : (s.endFlags e).op = s.op := rfl
@[simp] theorem State.endFlags_calIdx : (s.endFlags e).calIdx = s.calIdx := rfl
@[simp] theorem State.endFlags_delay : (s.endFlags e).delay = s.delay := rfl
@[simp] theorem State.endFlags_ut : (s.endFlags e).ut = s.ut := rfl
@[simp] theorem State.endFlags_up : (s.endFlags e).up = s.up := rfl
@[simp] theorem State.endFlags_resT : (s.endFlags e).resT = s.resT := rfl
@[simp] theorem State.endFlags_tValid : (s.endFlags e).tValid = s.tValid := rfl
@[simp] theorem State.endFlags_resP : (s.endFlags e).resP = s.resP := rfl
@[simp] theorem State.endFlags_pValid : (s.endFlags e).pValid = s.pValid := rfl
@[simp] theorem State.endFlags_busy : (s.endFlags e).busy = false := rfl
@[simp] theorem State.endFlags_done : (s.endFlags e).done = true := rfl
@[simp] theorem State.endFlags_err : (s.endFlags e).err = e := rfl
@[simp] theorem State.endFlags_script : (s.endFlags e).script = s.script := rfl
@[simp] theorem State.endFlags_now : (s.endFlags e).now = s.now := rfl
@[simp] theorem State.endFlags_transcript : (s.endFlags e).transcript = s.transcript := rfl

end EndFlags

section AtOnceFlags

variable (s : State) (e : ErrCode)

@[simp] theorem State.atOnceFlags_cal : (s.atOnceFlags e).cal = s.cal := rfl
@[simp] theorem State.atOnceFlags_calValid : (s.atOnceFlags e).calValid = s.calValid := rfl
@[simp] theorem State.atOnceFlags_mode : (s.atOnceFlags e).mode = s.mode := rfl
@[simp] theorem State.atOnceFlags_seq : (s.atOnceFlags e).seq = s.seq := rfl
@[simp] theorem State.atOnceFlags_op : (s.atOnceFlags e).op = s.op := rfl
@[simp] theorem State.atOnceFlags_calIdx : (s.atOnceFlags e).calIdx = s.calIdx := rfl
@[simp] theorem State.atOnceFlags_delay : (s.atOnceFlags e).delay = s.delay := rfl
@[simp] theorem State.atOnceFlags_ut : (s.atOnceFlags e).ut = s.ut := rfl
@[simp] theorem State.atOnceFlags_up : (s.atOnceFlags e).up = s.up := rfl
@[simp] theorem State.atOnceFlags_resT : (s.atOnceFlags e).resT = s.resT := rfl
@[simp] theorem State.atOnceFlags_tValid : (s.atOnceFlags e).tValid = s.tValid := rfl
@[simp] theorem State.atOnceFlags_resP : (s.atOnceFlags e).resP = s.resP := rfl
@[simp] theorem State.atOnceFlags_pValid : (s.atOnceFlags e).pValid = s.pValid := rfl
@[simp] theorem State.atOnceFlags_busy : (s.atOnceFlags e).busy = s.busy := rfl
@[simp] theorem State.atOnceFlags_done : (s.atOnceFlags e).done = true := rfl
@[simp] theorem State.atOnceFlags_err : (s.atOnceFlags e).err = e := rfl
@[simp] theorem State.atOnceFlags_script : (s.atOnceFlags e).script = s.script := rfl
@[simp] theorem State.atOnceFlags_now : (s.atOnceFlags e).now = s.now := rfl
@[simp] theorem State.atOnceFlags_transcript : (s.atOnceFlags e).transcript = s.transcript := rfl

end AtOnceFlags

section Consume

variable (s : State)

@[simp] theorem State.consume_cal : (s.consume).cal = s.cal := rfl
@[simp] theorem State.consume_calValid : (s.consume).calValid = s.calValid := rfl
@[simp] theorem State.consume_mode : (s.consume).mode = s.mode := rfl
@[simp] theorem State.consume_seq : (s.consume).seq = s.seq := rfl
@[simp] theorem State.consume_op : (s.consume).op = s.op := rfl
@[simp] theorem State.consume_calIdx : (s.consume).calIdx = s.calIdx := rfl
@[simp] theorem State.consume_delay : (s.consume).delay = s.delay := rfl
@[simp] theorem State.consume_ut : (s.consume).ut = s.ut := rfl
@[simp] theorem State.consume_up : (s.consume).up = s.up := rfl
@[simp] theorem State.consume_resT : (s.consume).resT = s.resT := rfl
@[simp] theorem State.consume_tValid : (s.consume).tValid = s.tValid := rfl
@[simp] theorem State.consume_resP : (s.consume).resP = s.resP := rfl
@[simp] theorem State.consume_pValid : (s.consume).pValid = s.pValid := rfl
@[simp] theorem State.consume_busy : (s.consume).busy = s.busy := rfl
@[simp] theorem State.consume_done : (s.consume).done = s.done := rfl
@[simp] theorem State.consume_err : (s.consume).err = s.err := rfl
@[simp] theorem State.consume_script : (s.consume).script = s.script.tail := rfl
@[simp] theorem State.consume_now : (s.consume).now = s.now + 1 := rfl
@[simp] theorem State.consume_transcript : (s.consume).transcript = s.transcript := rfl

end Consume

section Record

variable (s : State) (e : BusEntry)

@[simp] theorem State.record_cal : (s.record e).cal = s.cal := rfl
@[simp] theorem State.record_calValid : (s.record e).calValid = s.calValid := rfl
@[simp] theorem State.record_mode : (s.record e).mode = s.mode := rfl
@[simp] theorem State.record_seq : (s.record e).seq = s.seq := rfl
@[simp] theorem State.record_op : (s.record e).op = s.op := rfl
@[simp] theorem State.record_calIdx : (s.record e).calIdx = s.calIdx := rfl
@[simp] theorem State.record_delay : (s.record e).delay = s.delay := rfl
@[simp] theorem State.record_ut : (s.record e).ut = s.ut := rfl
@[simp] theorem State.record_up : (s.record e).up = s.up := rfl
@[simp] theorem State.record_resT : (s.record e).resT = s.resT := rfl
@[simp] theorem State.record_tValid : (s.record e).tValid = s.tValid := rfl
@[simp] theorem State.record_resP : (s.record e).resP = s.resP := rfl
@[simp] theorem State.record_pValid : (s.record e).pValid = s.pValid := rfl
@[simp] theorem State.record_busy : (s.record e).busy = s.busy := rfl
@[simp] theorem State.record_done : (s.record e).done = s.done := rfl
@[simp] theorem State.record_err : (s.record e).err = s.err := rfl
@[simp] theorem State.record_script : (s.record e).script = s.script := rfl
@[simp] theorem State.record_now : (s.record e).now = s.now := rfl
@[simp] theorem State.record_transcript : (s.record e).transcript = e :: s.transcript := rfl

end Record

section Complete

variable (s : State)

@[simp] theorem State.complete_cal : (s.complete).cal = s.cal := rfl
@[simp] theorem State.complete_calValid : (s.complete).calValid = s.calValid := rfl
@[simp] theorem State.complete_mode : (s.complete).mode = s.mode := rfl
@[simp] theorem State.complete_seq : (s.complete).seq = .idle := rfl
@[simp] theorem State.complete_op : (s.complete).op = s.op := rfl
@[simp] theorem State.complete_calIdx : (s.complete).calIdx = s.calIdx := rfl
@[simp] theorem State.complete_delay : (s.complete).delay = s.delay := rfl
@[simp] theorem State.complete_ut : (s.complete).ut = s.ut := rfl
@[simp] theorem State.complete_up : (s.complete).up = s.up := rfl
@[simp] theorem State.complete_resT : (s.complete).resT = s.resT := rfl
@[simp] theorem State.complete_tValid : (s.complete).tValid = s.tValid := rfl
@[simp] theorem State.complete_resP : (s.complete).resP = s.resP := rfl
@[simp] theorem State.complete_pValid : (s.complete).pValid = s.pValid := rfl
@[simp] theorem State.complete_busy : (s.complete).busy = false := rfl
@[simp] theorem State.complete_done : (s.complete).done = true := rfl
@[simp] theorem State.complete_err : (s.complete).err = .ok := rfl
@[simp] theorem State.complete_script : (s.complete).script = s.script := rfl
@[simp] theorem State.complete_now : (s.complete).now = s.now := rfl
@[simp] theorem State.complete_transcript : (s.complete).transcript = s.transcript := rfl

end Complete

section LoseUt

variable (s : State)

@[simp] theorem State.loseUt_cal : (s.loseUt).cal = s.cal := rfl
@[simp] theorem State.loseUt_calValid : (s.loseUt).calValid = s.calValid := rfl
@[simp] theorem State.loseUt_mode : (s.loseUt).mode = s.mode := rfl
@[simp] theorem State.loseUt_seq : (s.loseUt).seq = s.seq := rfl
@[simp] theorem State.loseUt_op : (s.loseUt).op = s.op := rfl
@[simp] theorem State.loseUt_calIdx : (s.loseUt).calIdx = s.calIdx := rfl
@[simp] theorem State.loseUt_delay : (s.loseUt).delay = s.delay := rfl
@[simp] theorem State.loseUt_ut : (s.loseUt).ut = Config.freeUt s.now := rfl
@[simp] theorem State.loseUt_up : (s.loseUt).up = s.up := rfl
@[simp] theorem State.loseUt_resT : (s.loseUt).resT = s.resT := rfl
@[simp] theorem State.loseUt_tValid : (s.loseUt).tValid = s.tValid := rfl
@[simp] theorem State.loseUt_resP : (s.loseUt).resP = s.resP := rfl
@[simp] theorem State.loseUt_pValid : (s.loseUt).pValid = s.pValid := rfl
@[simp] theorem State.loseUt_busy : (s.loseUt).busy = s.busy := rfl
@[simp] theorem State.loseUt_done : (s.loseUt).done = s.done := rfl
@[simp] theorem State.loseUt_err : (s.loseUt).err = s.err := rfl
@[simp] theorem State.loseUt_script : (s.loseUt).script = s.script := rfl
@[simp] theorem State.loseUt_now : (s.loseUt).now = s.now := rfl
@[simp] theorem State.loseUt_transcript : (s.loseUt).transcript = s.transcript := rfl

end LoseUt

section LoseUp

variable (s : State)

@[simp] theorem State.loseUp_cal : (s.loseUp).cal = s.cal := rfl
@[simp] theorem State.loseUp_calValid : (s.loseUp).calValid = s.calValid := rfl
@[simp] theorem State.loseUp_mode : (s.loseUp).mode = s.mode := rfl
@[simp] theorem State.loseUp_seq : (s.loseUp).seq = s.seq := rfl
@[simp] theorem State.loseUp_op : (s.loseUp).op = s.op := rfl
@[simp] theorem State.loseUp_calIdx : (s.loseUp).calIdx = s.calIdx := rfl
@[simp] theorem State.loseUp_delay : (s.loseUp).delay = s.delay := rfl
@[simp] theorem State.loseUp_ut : (s.loseUp).ut = s.ut := rfl
@[simp] theorem State.loseUp_up : (s.loseUp).up = Config.freeUp s.now := rfl
@[simp] theorem State.loseUp_resT : (s.loseUp).resT = s.resT := rfl
@[simp] theorem State.loseUp_tValid : (s.loseUp).tValid = s.tValid := rfl
@[simp] theorem State.loseUp_resP : (s.loseUp).resP = s.resP := rfl
@[simp] theorem State.loseUp_pValid : (s.loseUp).pValid = s.pValid := rfl
@[simp] theorem State.loseUp_busy : (s.loseUp).busy = s.busy := rfl
@[simp] theorem State.loseUp_done : (s.loseUp).done = s.done := rfl
@[simp] theorem State.loseUp_err : (s.loseUp).err = s.err := rfl
@[simp] theorem State.loseUp_script : (s.loseUp).script = s.script := rfl
@[simp] theorem State.loseUp_now : (s.loseUp).now = s.now := rfl
@[simp] theorem State.loseUp_transcript : (s.loseUp).transcript = s.transcript := rfl

end LoseUp

section Abort

variable (s : State) (e : ErrCode)

@[simp] theorem State.abort_cal : (s.abort e).cal = s.cal := rfl
@[simp] theorem State.abort_calValid : (s.abort e).calValid = s.calValid := rfl
@[simp] theorem State.abort_mode : (s.abort e).mode = s.mode := rfl
@[simp] theorem State.abort_seq : (s.abort e).seq = .idle := rfl
@[simp] theorem State.abort_op : (s.abort e).op = s.op := rfl
@[simp] theorem State.abort_calIdx : (s.abort e).calIdx = s.calIdx := rfl
@[simp] theorem State.abort_delay : (s.abort e).delay = s.delay := rfl
@[simp] theorem State.abort_ut : (s.abort e).ut = s.ut := rfl
@[simp] theorem State.abort_up : (s.abort e).up = s.up := rfl
@[simp] theorem State.abort_resT : (s.abort e).resT = s.resT := rfl
@[simp] theorem State.abort_tValid : (s.abort e).tValid = s.tValid := rfl
@[simp] theorem State.abort_resP : (s.abort e).resP = s.resP := rfl
@[simp] theorem State.abort_pValid : (s.abort e).pValid = s.pValid := rfl
@[simp] theorem State.abort_busy : (s.abort e).busy = false := rfl
@[simp] theorem State.abort_done : (s.abort e).done = true := rfl
@[simp] theorem State.abort_err : (s.abort e).err = e := rfl
@[simp] theorem State.abort_script : (s.abort e).script = s.script := rfl
@[simp] theorem State.abort_now : (s.abort e).now = s.now := rfl
@[simp] theorem State.abort_transcript : (s.abort e).transcript = s.transcript := rfl

end Abort

section AbortSampled

variable (s : State) (e : ErrCode)

@[simp] theorem State.abortSampled_cal : (s.abortSampled e).cal = s.cal := rfl
@[simp] theorem State.abortSampled_calValid : (s.abortSampled e).calValid = s.calValid := rfl
@[simp] theorem State.abortSampled_mode : (s.abortSampled e).mode = s.mode := rfl
@[simp] theorem State.abortSampled_seq : (s.abortSampled e).seq = .idle := rfl
@[simp] theorem State.abortSampled_op : (s.abortSampled e).op = s.op := rfl
@[simp] theorem State.abortSampled_calIdx : (s.abortSampled e).calIdx = s.calIdx := rfl
@[simp] theorem State.abortSampled_delay : (s.abortSampled e).delay = s.delay := rfl
@[simp] theorem State.abortSampled_ut : (s.abortSampled e).ut = Config.freeUt s.now := rfl
@[simp] theorem State.abortSampled_up : (s.abortSampled e).up = s.up := rfl
@[simp] theorem State.abortSampled_resT : (s.abortSampled e).resT = s.resT := rfl
@[simp] theorem State.abortSampled_tValid : (s.abortSampled e).tValid = s.tValid := rfl
@[simp] theorem State.abortSampled_resP : (s.abortSampled e).resP = s.resP := rfl
@[simp] theorem State.abortSampled_pValid : (s.abortSampled e).pValid = s.pValid := rfl
@[simp] theorem State.abortSampled_busy : (s.abortSampled e).busy = false := rfl
@[simp] theorem State.abortSampled_done : (s.abortSampled e).done = true := rfl
@[simp] theorem State.abortSampled_err : (s.abortSampled e).err = e := rfl
@[simp] theorem State.abortSampled_script : (s.abortSampled e).script = s.script := rfl
@[simp] theorem State.abortSampled_now : (s.abortSampled e).now = s.now := rfl
@[simp] theorem State.abortSampled_transcript : (s.abortSampled e).transcript = s.transcript := rfl

end AbortSampled

section AbortEvaluation

variable (s : State) (e : ErrCode)

@[simp] theorem State.abortEvaluation_cal : (s.abortEvaluation e).cal = s.cal := by
  unfold State.abortEvaluation; split <;> rfl
@[simp] theorem State.abortEvaluation_calValid : (s.abortEvaluation e).calValid = s.calValid := by
  unfold State.abortEvaluation; split <;> rfl
@[simp] theorem State.abortEvaluation_mode : (s.abortEvaluation e).mode = s.mode := by
  unfold State.abortEvaluation; split <;> rfl
@[simp] theorem State.abortEvaluation_seq : (s.abortEvaluation e).seq = .idle := by
  unfold State.abortEvaluation; split <;> rfl
@[simp] theorem State.abortEvaluation_op : (s.abortEvaluation e).op = s.op := by
  unfold State.abortEvaluation; split <;> rfl
@[simp] theorem State.abortEvaluation_calIdx : (s.abortEvaluation e).calIdx = s.calIdx := by
  unfold State.abortEvaluation; split <;> rfl
@[simp] theorem State.abortEvaluation_delay : (s.abortEvaluation e).delay = s.delay := by
  unfold State.abortEvaluation; split <;> rfl
@[simp] theorem State.abortEvaluation_ut : (s.abortEvaluation e).ut = Config.freeUt s.now := by
  unfold State.abortEvaluation; split <;> rfl
@[simp] theorem State.abortEvaluation_up : (s.abortEvaluation e).up = if s.op = .temp then s.up else Config.freeUp s.now := by
  unfold State.abortEvaluation; split <;> rfl
@[simp] theorem State.abortEvaluation_resT : (s.abortEvaluation e).resT = s.resT := by
  unfold State.abortEvaluation; split <;> rfl
@[simp] theorem State.abortEvaluation_tValid : (s.abortEvaluation e).tValid = s.tValid := by
  unfold State.abortEvaluation; split <;> rfl
@[simp] theorem State.abortEvaluation_resP : (s.abortEvaluation e).resP = s.resP := by
  unfold State.abortEvaluation; split <;> rfl
@[simp] theorem State.abortEvaluation_pValid : (s.abortEvaluation e).pValid = s.pValid := by
  unfold State.abortEvaluation; split <;> rfl
@[simp] theorem State.abortEvaluation_busy : (s.abortEvaluation e).busy = false := by
  unfold State.abortEvaluation; split <;> rfl
@[simp] theorem State.abortEvaluation_done : (s.abortEvaluation e).done = true := by
  unfold State.abortEvaluation; split <;> rfl
@[simp] theorem State.abortEvaluation_err : (s.abortEvaluation e).err = e := by
  unfold State.abortEvaluation; split <;> rfl
@[simp] theorem State.abortEvaluation_script : (s.abortEvaluation e).script = s.script := by
  unfold State.abortEvaluation; split <;> rfl
@[simp] theorem State.abortEvaluation_now : (s.abortEvaluation e).now = s.now := by
  unfold State.abortEvaluation; split <;> rfl
@[simp] theorem State.abortEvaluation_transcript : (s.abortEvaluation e).transcript = s.transcript := by
  unfold State.abortEvaluation; split <;> rfl

end AbortEvaluation

section Refuse

variable (s : State)

@[simp] theorem State.refuse_cal : (s.refuse).cal = s.cal := rfl
@[simp] theorem State.refuse_calValid : (s.refuse).calValid = s.calValid := rfl
@[simp] theorem State.refuse_mode : (s.refuse).mode = s.mode := rfl
@[simp] theorem State.refuse_seq : (s.refuse).seq = s.seq := rfl
@[simp] theorem State.refuse_op : (s.refuse).op = s.op := rfl
@[simp] theorem State.refuse_calIdx : (s.refuse).calIdx = s.calIdx := rfl
@[simp] theorem State.refuse_delay : (s.refuse).delay = s.delay := rfl
@[simp] theorem State.refuse_ut : (s.refuse).ut = s.ut := rfl
@[simp] theorem State.refuse_up : (s.refuse).up = s.up := rfl
@[simp] theorem State.refuse_resT : (s.refuse).resT = s.resT := rfl
@[simp] theorem State.refuse_tValid : (s.refuse).tValid = s.tValid := rfl
@[simp] theorem State.refuse_resP : (s.refuse).resP = s.resP := rfl
@[simp] theorem State.refuse_pValid : (s.refuse).pValid = s.pValid := rfl
@[simp] theorem State.refuse_busy : (s.refuse).busy = s.busy := rfl
@[simp] theorem State.refuse_done : (s.refuse).done = true := rfl
@[simp] theorem State.refuse_err : (s.refuse).err = .illegalCommand := rfl
@[simp] theorem State.refuse_script : (s.refuse).script = s.script := rfl
@[simp] theorem State.refuse_now : (s.refuse).now = s.now := rfl
@[simp] theorem State.refuse_transcript : (s.refuse).transcript = s.transcript := rfl

end Refuse

section ForgetCal

variable (s : State)

@[simp] theorem State.forgetCal_cal : (s.forgetCal).cal = ⟨Config.freeCal s.now 0, Config.freeCal s.now 1, Config.freeCal s.now 2, Config.freeCal s.now 3, Config.freeCal s.now 4, Config.freeCal s.now 5, Config.freeCal s.now 6, Config.freeCal s.now 7, Config.freeCal s.now 8, Config.freeCal s.now 9, Config.freeCal s.now 10⟩ := rfl
@[simp] theorem State.forgetCal_calValid : (s.forgetCal).calValid = s.calValid := rfl
@[simp] theorem State.forgetCal_mode : (s.forgetCal).mode = Config.freeMode s.now := rfl
@[simp] theorem State.forgetCal_seq : (s.forgetCal).seq = s.seq := rfl
@[simp] theorem State.forgetCal_op : (s.forgetCal).op = s.op := rfl
@[simp] theorem State.forgetCal_calIdx : (s.forgetCal).calIdx = s.calIdx := rfl
@[simp] theorem State.forgetCal_delay : (s.forgetCal).delay = s.delay := rfl
@[simp] theorem State.forgetCal_ut : (s.forgetCal).ut = s.ut := rfl
@[simp] theorem State.forgetCal_up : (s.forgetCal).up = s.up := rfl
@[simp] theorem State.forgetCal_resT : (s.forgetCal).resT = s.resT := rfl
@[simp] theorem State.forgetCal_tValid : (s.forgetCal).tValid = s.tValid := rfl
@[simp] theorem State.forgetCal_resP : (s.forgetCal).resP = s.resP := rfl
@[simp] theorem State.forgetCal_pValid : (s.forgetCal).pValid = s.pValid := rfl
@[simp] theorem State.forgetCal_busy : (s.forgetCal).busy = s.busy := rfl
@[simp] theorem State.forgetCal_done : (s.forgetCal).done = s.done := rfl
@[simp] theorem State.forgetCal_err : (s.forgetCal).err = s.err := rfl
@[simp] theorem State.forgetCal_script : (s.forgetCal).script = s.script := rfl
@[simp] theorem State.forgetCal_now : (s.forgetCal).now = s.now := rfl
@[simp] theorem State.forgetCal_transcript : (s.forgetCal).transcript = s.transcript := rfl

end ForgetCal

section AbortConstruct

variable (s : State)

@[simp] theorem State.abortConstruct_cal : (s.abortConstruct).cal = ⟨Config.freeCal s.now 0, Config.freeCal s.now 1, Config.freeCal s.now 2, Config.freeCal s.now 3, Config.freeCal s.now 4, Config.freeCal s.now 5, Config.freeCal s.now 6, Config.freeCal s.now 7, Config.freeCal s.now 8, Config.freeCal s.now 9, Config.freeCal s.now 10⟩ := rfl
@[simp] theorem State.abortConstruct_calValid : (s.abortConstruct).calValid = s.calValid := rfl
@[simp] theorem State.abortConstruct_mode : (s.abortConstruct).mode = Config.freeMode s.now := rfl
@[simp] theorem State.abortConstruct_seq : (s.abortConstruct).seq = .idle := rfl
@[simp] theorem State.abortConstruct_op : (s.abortConstruct).op = s.op := rfl
@[simp] theorem State.abortConstruct_calIdx : (s.abortConstruct).calIdx = s.calIdx := rfl
@[simp] theorem State.abortConstruct_delay : (s.abortConstruct).delay = s.delay := rfl
@[simp] theorem State.abortConstruct_ut : (s.abortConstruct).ut = s.ut := rfl
@[simp] theorem State.abortConstruct_up : (s.abortConstruct).up = s.up := rfl
@[simp] theorem State.abortConstruct_resT : (s.abortConstruct).resT = s.resT := rfl
@[simp] theorem State.abortConstruct_tValid : (s.abortConstruct).tValid = s.tValid := rfl
@[simp] theorem State.abortConstruct_resP : (s.abortConstruct).resP = s.resP := rfl
@[simp] theorem State.abortConstruct_pValid : (s.abortConstruct).pValid = s.pValid := rfl
@[simp] theorem State.abortConstruct_busy : (s.abortConstruct).busy = false := rfl
@[simp] theorem State.abortConstruct_done : (s.abortConstruct).done = true := rfl
@[simp] theorem State.abortConstruct_err : (s.abortConstruct).err = .transportError := rfl
@[simp] theorem State.abortConstruct_script : (s.abortConstruct).script = s.script := rfl
@[simp] theorem State.abortConstruct_now : (s.abortConstruct).now = s.now := rfl
@[simp] theorem State.abortConstruct_transcript : (s.abortConstruct).transcript = s.transcript := rfl

end AbortConstruct

section DeliverT

variable (s : State) (v : Int)

@[simp] theorem State.deliverT_cal : (s.deliverT v).cal = s.cal := rfl
@[simp] theorem State.deliverT_calValid : (s.deliverT v).calValid = s.calValid := rfl
@[simp] theorem State.deliverT_mode : (s.deliverT v).mode = s.mode := rfl
@[simp] theorem State.deliverT_seq : (s.deliverT v).seq = .idle := rfl
@[simp] theorem State.deliverT_op : (s.deliverT v).op = s.op := rfl
@[simp] theorem State.deliverT_calIdx : (s.deliverT v).calIdx = s.calIdx := rfl
@[simp] theorem State.deliverT_delay : (s.deliverT v).delay = s.delay := rfl
@[simp] theorem State.deliverT_ut : (s.deliverT v).ut = s.ut := rfl
@[simp] theorem State.deliverT_up : (s.deliverT v).up = s.up := rfl
@[simp] theorem State.deliverT_resT : (s.deliverT v).resT = BitVec.ofInt 32 v := rfl
@[simp] theorem State.deliverT_tValid : (s.deliverT v).tValid = true := rfl
@[simp] theorem State.deliverT_resP : (s.deliverT v).resP = s.resP := rfl
@[simp] theorem State.deliverT_pValid : (s.deliverT v).pValid = s.pValid := rfl
@[simp] theorem State.deliverT_busy : (s.deliverT v).busy = false := rfl
@[simp] theorem State.deliverT_done : (s.deliverT v).done = true := rfl
@[simp] theorem State.deliverT_err : (s.deliverT v).err = .ok := rfl
@[simp] theorem State.deliverT_script : (s.deliverT v).script = s.script := rfl
@[simp] theorem State.deliverT_now : (s.deliverT v).now = s.now := rfl
@[simp] theorem State.deliverT_transcript : (s.deliverT v).transcript = s.transcript := rfl

end DeliverT

section DeliverP

variable (s : State) (v : Int)

@[simp] theorem State.deliverP_cal : (s.deliverP v).cal = s.cal := rfl
@[simp] theorem State.deliverP_calValid : (s.deliverP v).calValid = s.calValid := rfl
@[simp] theorem State.deliverP_mode : (s.deliverP v).mode = s.mode := rfl
@[simp] theorem State.deliverP_seq : (s.deliverP v).seq = .idle := rfl
@[simp] theorem State.deliverP_op : (s.deliverP v).op = s.op := rfl
@[simp] theorem State.deliverP_calIdx : (s.deliverP v).calIdx = s.calIdx := rfl
@[simp] theorem State.deliverP_delay : (s.deliverP v).delay = s.delay := rfl
@[simp] theorem State.deliverP_ut : (s.deliverP v).ut = s.ut := rfl
@[simp] theorem State.deliverP_up : (s.deliverP v).up = s.up := rfl
@[simp] theorem State.deliverP_resT : (s.deliverP v).resT = s.resT := rfl
@[simp] theorem State.deliverP_tValid : (s.deliverP v).tValid = s.tValid := rfl
@[simp] theorem State.deliverP_resP : (s.deliverP v).resP = BitVec.ofInt 64 v := rfl
@[simp] theorem State.deliverP_pValid : (s.deliverP v).pValid = true := rfl
@[simp] theorem State.deliverP_busy : (s.deliverP v).busy = false := rfl
@[simp] theorem State.deliverP_done : (s.deliverP v).done = true := rfl
@[simp] theorem State.deliverP_err : (s.deliverP v).err = .ok := rfl
@[simp] theorem State.deliverP_script : (s.deliverP v).script = s.script := rfl
@[simp] theorem State.deliverP_now : (s.deliverP v).now = s.now := rfl
@[simp] theorem State.deliverP_transcript : (s.deliverP v).transcript = s.transcript := rfl

end DeliverP

end Sys2Proof.Machine
end

