-- ==== Sys2Proof/Laws/Ops.lean ====
section
/-! SUPPORT. One lemma per shared operation that says everything it can do, for later proofs to cite. -/

namespace Sys2Proof.Machine

variable {s t : State}

/-! ### Events and answers -/

/-- The event is the first one listed. -/
theorem event_of_script {e : Event} {l : List Event} (h : s.script = e :: l) : s.event = e := by
  simp [State.event, h]

/-- The transport's answer at a step whose event is one. -/
theorem reply_of_event {r : Reply} (h : s.event = .reply r) : s.reply = some r := by
  simp [State.reply, h]

/-- No answer at a step whose event is none. -/
theorem reply_eq_none (h : ∀ r, s.event ≠ .reply r) : s.reply = none := by
  unfold State.reply
  split
  · exact absurd ‹_› (h _)
  · rfl

/-! ### Bus transactions -/

section Bus

variable {reg : Byte} {len : Nat} {onOk : Byte → Byte → Byte → State → State} {onFail : State → State}
variable {val : Byte} {onWrite onLost : State → State}

/-- A read that returns. -/
theorem busRead_ok {r0 r1 r2 : Byte} (h : s.event = .reply (.ok r0 r1 r2)) :
    s.busRead reg len onOk onFail =
      onOk r0 r1 r2 (s.consume.record (.read devAddr reg len (some ([r0, r1, r2].take len)))) := by
  simp [State.busRead, reply_of_event h]

/-- A read that fails. -/
theorem busRead_fail (h : s.event = .reply .fail) :
    s.busRead reg len onOk onFail = onFail (s.consume.record (.read devAddr reg len none)) := by
  simp [State.busRead, reply_of_event h]

/-- A read whose answer has not come. -/
theorem busRead_wait (h : ∀ r, s.event ≠ .reply r) : s.busRead reg len onOk onFail = s.consume := by
  simp [State.busRead, reply_eq_none h]

/-- All that a read can do. -/
theorem busRead_cases (reg : Byte) (len : Nat) (onOk : Byte → Byte → Byte → State → State) (onFail : State → State)
    (s : State) :
    (∃ r0 r1 r2, s.event = .reply (.ok r0 r1 r2) ∧ s.busRead reg len onOk onFail =
      onOk r0 r1 r2 (s.consume.record (.read devAddr reg len (some ([r0, r1, r2].take len))))) ∨
    (s.event = .reply .fail ∧ s.busRead reg len onOk onFail = onFail (s.consume.record (.read devAddr reg len none))) ∨
    ((∀ r, s.event ≠ .reply r) ∧ s.busRead reg len onOk onFail = s.consume) := by
  by_cases h : ∃ r, s.event = .reply r
  · obtain ⟨r, hr⟩ := h
    cases r with
    | fail => exact .inr (.inl ⟨hr, busRead_fail hr⟩)
    | ok r0 r1 r2 => exact .inl ⟨r0, r1, r2, hr, busRead_ok hr⟩
  · have h' : ∀ r, s.event ≠ .reply r := fun r hr => h ⟨r, hr⟩
    exact .inr (.inr ⟨h', busRead_wait h'⟩)

/-- A write that succeeds. -/
theorem busWrite_ok {r0 r1 r2 : Byte} (h : s.event = .reply (.ok r0 r1 r2)) :
    s.busWrite val onWrite onLost = onWrite (s.consume.record (.write devAddr controlReg val true)) := by
  simp [State.busWrite, reply_of_event h]

/-- A write that fails. -/
theorem busWrite_fail (h : s.event = .reply .fail) :
    s.busWrite val onWrite onLost = onLost (s.consume.record (.write devAddr controlReg val false)) := by
  simp [State.busWrite, reply_of_event h]

/-- A write whose answer has not come. -/
theorem busWrite_wait (h : ∀ r, s.event ≠ .reply r) : s.busWrite val onWrite onLost = s.consume := by
  simp [State.busWrite, reply_eq_none h]

/-- All that a write can do. -/
theorem busWrite_cases (val : Byte) (onWrite onLost : State → State) (s : State) :
    (∃ r0 r1 r2, s.event = .reply (.ok r0 r1 r2) ∧
      s.busWrite val onWrite onLost = onWrite (s.consume.record (.write devAddr controlReg val true))) ∨
    (s.event = .reply .fail ∧
      s.busWrite val onWrite onLost = onLost (s.consume.record (.write devAddr controlReg val false))) ∨
    ((∀ r, s.event ≠ .reply r) ∧ s.busWrite val onWrite onLost = s.consume) := by
  by_cases h : ∃ r, s.event = .reply r
  · obtain ⟨r, hr⟩ := h
    cases r with
    | fail => exact .inr (.inl ⟨hr, busWrite_fail hr⟩)
    | ok r0 r1 r2 => exact .inl ⟨r0, r1, r2, hr, busWrite_ok hr⟩
  · have h' : ∀ r, s.event ≠ .reply r := fun r hr => h ⟨r, hr⟩
    exact .inr (.inr ⟨h', busWrite_wait h'⟩)

end Bus

/-! ### Acceptance -/

/-- All that the acceptance of a command can do: it starts, it is refused, or it is not sampled. -/
theorem accept_cases (allowed : Bool) (start : State → State) (s : State) :
    (s.seq = .idle ∧ allowed = true ∧ s.accept allowed start = start s.consume.clearFlags) ∨
    (s.seq = .idle ∧ allowed = false ∧ s.accept allowed start = s.consume.clearFlags.refuse) ∨
    (s.seq ≠ .idle ∧ s.accept allowed start = s.consume) := by
  unfold State.accept
  by_cases h : s.seq = .idle
  · cases allowed <;> simp [h]
  · simp [h]

/-! ### The block's own moves -/

/-- All that a tick can do. -/
theorem tick_cases (s : State) :
    ((s.seq = .tWait ∨ s.seq = .pWait) ∧ s.delay ≠ 0 ∧
      s.tick = { s.consume.record .wait with delay := s.delay - 1 }) ∨
    (¬ ((s.seq = .tWait ∨ s.seq = .pWait) ∧ s.delay ≠ 0) ∧ s.tick = s.consume) := by
  unfold State.tick
  split
  · exact .inl ⟨‹_ ∧ _›.1, ‹_ ∧ _›.2, rfl⟩
  · exact .inr ⟨‹_›, rfl⟩

/-- All that the evaluation of the engine can do: an abort, a temperature, or a pressure. -/
theorem evaluate_cases (s : State) :
    (∃ e, s.evaluate = s.consume.abortEvaluation e ∧ (e = .arithmeticError ∨ e = .rangeFault)) ∨
    (s.op = .temp ∧ den s.cal s.ut ≠ 0 ∧ s.evaluate = s.consume.deliverT (temperature (b5 s.cal s.ut))) ∨
    (s.op ≠ .temp ∧ den s.cal s.ut ≠ 0 ∧
      ∃ p, compP engine s.cal (b5 s.cal s.ut) (s.up.toNat : Int) s.mode.toNat = .ok p ∧
        s.evaluate = s.consume.deliverP p) := by
  unfold State.evaluate compT
  by_cases hd : den s.cal s.ut = 0
  · exact .inl ⟨.arithmeticError, by simp [hd], .inl rfl⟩
  · by_cases ho : s.op = .temp
    · exact .inr (.inl ⟨ho, hd, by simp [hd, ho]⟩)
    · cases hp : compP engine s.cal (b5 s.cal s.ut) (s.up.toNat : Int) s.mode.toNat with
      | error e =>
        refine .inl ⟨e, by simp [hd, ho, hp], ?_⟩
        unfold compP at hp
        split at hp
        · cases hp; exact .inl rfl
        · split at hp <;> cases hp
          exact .inr rfl
      | ok p => exact .inr (.inr ⟨ho, hd, p, rfl, by simp [hd, ho, hp]⟩)

/-- All that a spontaneous move can be. -/
theorem spontaneous_cases (s : State) :
    (s.seq = .tWait ∧ s.delay = 0 ∧ s.spontaneous = { s.consume with seq := .tRead }) ∨
    (s.seq = .pWait ∧ s.delay = 0 ∧ s.spontaneous = { s.consume with seq := .pRead }) ∨
    (s.seq = .comp ∧ s.spontaneous = s.evaluate) ∨
    (s.seq ≠ .comp ∧ ((s.seq = .tWait ∨ s.seq = .pWait) → s.delay ≠ 0) ∧ s.spontaneous = s.consume) := by
  unfold State.spontaneous
  cases s.seq <;> by_cases hd : s.delay = 0#5 <;> simp [hd]

/-! ### The step -/

/-- Every instruction answers a next state. -/
theorem exec_next (i : Instr) (s : State) : ∃ t, exec i s = .next t := by
  cases i <;> exact ⟨_, rfl⟩

/-- All that a step can be: the decoded instruction, or the block's own move. -/
theorem step_cases (h : step s = .next t) :
    (∃ w i, s.fetch = some w ∧ decodeWord w = .ok i ∧ exec i s = .next t) ∨ (s.fetch = none ∧ t = s.internal) := by
  unfold step at h
  split at h
  · split at h
    · exact .inl ⟨_, _, ‹_›, ‹_›, h⟩
    · cases h
  · exact .inr ⟨‹_›, by cases h; rfl⟩

/-- Reset clears the control bits, makes no transaction and takes the event. -/
theorem hardReset_control (s : State) :
    s.hardReset.seq = .idle ∧ s.hardReset.busy = false ∧ s.hardReset.done = false ∧ s.hardReset.err = .ok ∧
    s.hardReset.calValid = false ∧ s.hardReset.tValid = false ∧ s.hardReset.pValid = false ∧
    s.hardReset.transcript = s.transcript ∧ s.hardReset.script = s.script.tail ∧ s.hardReset.now = s.now + 1 := by
  simp [State.hardReset]

end Sys2Proof.Machine
end

