-- ==== Sys2Proof/Laws/PerInstr.lean ====
section
/-! SUPPORT. The family WordRoundTrip: for each instruction, its word decodes to it. -/

namespace Sys2Proof.Laws.WordRoundTrip

/-- A well-formed instruction is what its word decodes to. -/
def Statement (i : Instr) : Prop :=
  i.wellFormed = true → decodeWord (encode i) = .ok i

theorem construct (mode : Nat) : Statement (.construct mode) := by
  intro h
  have h4 : mode < 4 := of_decide_eq_true h
  interval_cases mode <;> decide

theorem setMode (mode : Nat) : Statement (.setMode mode) := by
  intro h
  have h4 : mode < 4 := of_decide_eq_true h
  interval_cases mode <;> decide

theorem readTemperature (mode : Nat) : Statement (.readTemperature mode) := by
  intro h
  have h4 : mode < 4 := of_decide_eq_true h
  interval_cases mode <;> decide

theorem readPressure (mode : Nat) : Statement (.readPressure mode) := by
  intro h
  have h4 : mode < 4 := of_decide_eq_true h
  interval_cases mode <;> decide

theorem reserved0 (mode : Nat) : Statement (.reserved0 mode) := by
  intro h
  have h4 : mode < 4 := of_decide_eq_true h
  interval_cases mode <;> decide

theorem reserved5 (mode : Nat) : Statement (.reserved5 mode) := by
  intro h
  have h4 : mode < 4 := of_decide_eq_true h
  interval_cases mode <;> decide

theorem reserved6 (mode : Nat) : Statement (.reserved6 mode) := by
  intro h
  have h4 : mode < 4 := of_decide_eq_true h
  interval_cases mode <;> decide

theorem reserved7 (mode : Nat) : Statement (.reserved7 mode) := by
  intro h
  have h4 : mode < 4 := of_decide_eq_true h
  interval_cases mode <;> decide

theorem measT : Statement .measT := fun _ => by decide

theorem measP (oss : Nat) : Statement (.measP oss) := by
  intro h
  have h4 : oss < 4 := of_decide_eq_true h
  interval_cases oss <;> decide

theorem rdAc1 : Statement .rdAc1 := fun _ => by decide

theorem rdAc2 : Statement .rdAc2 := fun _ => by decide

theorem rdAc3 : Statement .rdAc3 := fun _ => by decide

theorem rdAc4 : Statement .rdAc4 := fun _ => by decide

theorem rdAc5 : Statement .rdAc5 := fun _ => by decide

theorem rdAc6 : Statement .rdAc6 := fun _ => by decide

theorem rdB1 : Statement .rdB1 := fun _ => by decide

theorem rdB2 : Statement .rdB2 := fun _ => by decide

theorem rdMb : Statement .rdMb := fun _ => by decide

theorem rdMc : Statement .rdMc := fun _ => by decide

theorem rdMd : Statement .rdMd := fun _ => by decide

theorem rdDataT : Statement .rdDataT := fun _ => by decide

theorem rdDataP : Statement .rdDataP := fun _ => by decide

end Sys2Proof.Laws.WordRoundTrip
end

