-- ==== Sys2Proof/Laws/Step.lean ====
section
/-! SUPPORT. What one step can do, said once: an inductive list of the moves, each with the registers that allow it and the
state it leaves, and the inversion of `step` into it. Invariants are proved by cases on a move. -/

namespace Sys2Proof.Machine

/-- The moves of the machine. -/
inductive Move (s : State) : State → Prop where
  /-- The event changes nothing. -/
  | nothing : s.event ≠ .reset → Move s s.consume
  /-- Reset. -/
  | reset : s.event = .reset → Move s s.hardReset
  /-- A command refused. -/
  | refused (w : BitVec 5) : s.event = .start w → s.seq = .idle → Move s s.consume.clearFlags.refuse
  /-- CONSTRUCT accepted. -/
  | construct (w : BitVec 5) (m : Nat) : s.event = .start w → w.extractLsb' 2 3 = 1 → s.seq = .idle → s.calValid = false →
      Move s { s.consume.clearFlags.busyFlags with
        mode := BitVec.ofNat 2 m, calIdx := 0, op := .construct, seq := .calRd }
  /-- SET_MODE accepted. -/
  | setMode (w : BitVec 5) (m : Nat) : s.event = .start w → s.seq = .idle → s.calValid = true →
      Move s { s.consume.clearFlags.atOnceFlags .ok with mode := BitVec.ofNat 2 m }
  /-- READ_TEMPERATURE or READ_PRESSURE accepted. -/
  | read (w : BitVec 5) (o : OpKind) : s.event = .start w → o ≠ .construct → s.seq = .idle → s.calValid = true →
      Move s { s.consume.clearFlags.busyFlags with op := o, seq := .tCmd }
  /-- A coefficient read and stored, not the last one. -/
  | loaded (r0 r1 r2 : Byte) (i : Nat) (c : Cal) : s.event = .reply (.ok r0 r1 r2) → s.seq = .calRd → i < 10 →
      s.calIdx.toNat = i →
      Move s { s.consume.record (.read devAddr (calReg i) 2 (some [r0, r1])) with
        cal := c, calIdx := BitVec.ofNat 4 (i + 1), seq := .calRd }
  /-- The last coefficient read and stored. -/
  | loadedLast (r0 r1 r2 : Byte) (c : Cal) : s.event = .reply (.ok r0 r1 r2) → s.seq = .calRd → s.calIdx.toNat = 10 →
      Move s { s.consume.record (.read devAddr (calReg 10) 2 (some [r0, r1])) with cal := c, calValid := true }.complete
  /-- A coefficient read that fails. -/
  | loadFailed : s.event = .reply .fail → s.seq = .calRd → s.calIdx.toNat ≤ 10 →
      Move s (s.consume.record (.read devAddr (calReg s.calIdx.toNat) 2 none)).abortConstruct
  /-- The temperature command written. -/
  | commandT (r0 r1 r2 : Byte) : s.event = .reply (.ok r0 r1 r2) → s.seq = .tCmd →
      Move s { s.consume.record (.write devAddr controlReg commandT true) with delay := tDelay, seq := .tWait }
  /-- The pressure command written. -/
  | commandP (r0 r1 r2 : Byte) : s.event = .reply (.ok r0 r1 r2) → s.seq = .pCmd →
      Move s { s.consume.record (.write devAddr controlReg (commandP s.mode) true) with
        delay := pDelay s.mode, seq := .pWait }
  /-- The write of the temperature command fails. -/
  | commandTFailed : s.event = .reply .fail → s.seq = .tCmd →
      Move s ((s.consume.record (.write devAddr controlReg Machine.commandT false)).abort .transportError)
  /-- The write of the pressure command fails. -/
  | commandPFailed : s.event = .reply .fail → s.seq = .pCmd →
      Move s ((s.consume.record (.write devAddr controlReg (Machine.commandP s.mode) false)).abortSampled .transportError)
  /-- The temperature read back. -/
  | readT (r0 r1 r2 : Byte) : s.event = .reply (.ok r0 r1 r2) → s.seq = .tRead →
      Move s { s.consume.record (.read devAddr dataReg 2 (some [r0, r1])) with
        ut := rawTemperature r0 r1, seq := if s.op = .temp then .comp else .pCmd }
  /-- The pressure read back. -/
  | readP (r0 r1 r2 : Byte) : s.event = .reply (.ok r0 r1 r2) → s.seq = .pRead →
      Move s { s.consume.record (.read devAddr dataReg 3 (some [r0, r1, r2])) with
        up := rawPressure r0 r1 r2 s.mode, seq := .comp }
  /-- The temperature read-back fails. -/
  | readTFailed : s.event = .reply .fail → s.seq = .tRead →
      Move s ((s.consume.record (.read devAddr dataReg 2 none)).abort .transportError)
  /-- The pressure read-back fails. -/
  | readPFailed : s.event = .reply .fail → s.seq = .pRead →
      Move s ((s.consume.record (.read devAddr dataReg 3 none)).abortSampled .transportError)
  /-- A tick counted. -/
  | ticked : s.event = .tick → (s.seq = .tWait ∨ s.seq = .pWait) → s.delay ≠ 0 →
      Move s { s.consume.record .wait with delay := s.delay - 1 }
  /-- The temperature wait is over. -/
  | leaveT : s.event = .quiet → s.seq = .tWait → s.delay = 0 → Move s { s.consume with seq := .tRead }
  /-- The pressure wait is over. -/
  | leaveP : s.event = .quiet → s.seq = .pWait → s.delay = 0 → Move s { s.consume with seq := .pRead }
  /-- The engine raises an error. -/
  | engineError (e : ErrCode) : s.event = .quiet → s.seq = .comp → e = .arithmeticError ∨ e = .rangeFault →
      Move s (s.consume.abortEvaluation e)
  /-- A temperature is delivered. -/
  | temperature (v : Int) : s.event = .quiet → s.seq = .comp → s.op = .temp → Move s (s.consume.deliverT v)
  /-- A pressure is delivered. -/
  | pressure (v : Int) : s.event = .quiet → s.seq = .comp → s.op ≠ .temp → Move s (s.consume.deliverP v)

variable {s t : State}

/-- A command word: what its acceptance step can be. -/
theorem move_of_host (w : BitVec 5) (h : s.event = .start w) (hx : exec (decodeHost w) s = .next t) : Move s t := by
  have hr : s.event ≠ .reset := by rw [h]; exact Event.noConfusion
  have key : ∀ (allowed : Bool) (start : State → State),
      (s.seq = .idle → allowed = true → Move s (start s.consume.clearFlags)) → Move s (s.accept allowed start) := by
    intro allowed start hs
    obtain ⟨h1, h2, h3⟩ | ⟨h1, -, h3⟩ | ⟨-, h3⟩ := accept_cases allowed start s <;> rw [h3]
    · exact hs h1 h2
    · exact .refused w h h1
    · exact .nothing hr
  unfold decodeHost at hx
  have h1 : (w.extractLsb' 2 3).toNat = 1 → w.extractLsb' 2 3 = 1 := fun e => BitVec.eq_of_toNat_eq e
  split at hx <;> cases hx
  · exact key _ _ (fun _ hf => absurd hf (by decide))
  · exact key _ _ (fun a b => .construct w _ h (h1 ‹_›) a (by simpa using b))
  · exact key _ _ (fun a b => .setMode w _ h a b)
  · exact key _ _ (fun a b => .read w .temp h (by decide) a b)
  · exact key _ _ (fun a b => .read w .press h (by decide) a b)
  · exact key _ _ (fun _ hf => absurd hf (by decide))
  · exact key _ _ (fun _ hf => absurd hf (by decide))
  · exact key _ _ (fun _ hf => absurd hf (by decide))

/-- A coefficient read taken up in `S_CAL_RD`: what it can be. -/
theorem move_of_load {r : Reply} (h : s.event = .reply r) (hq : s.seq = .calRd) (i : Nat) (hi : i ≤ 10)
    (hc : s.calIdx.toNat = i) (store : Byte → Byte → Cal → Cal) : Move s (s.loadCoefficient i store) := by
  unfold State.loadCoefficient
  cases r with
  | fail => rw [busRead_fail h, ← hc]; exact .loadFailed h hq (hc ▸ hi)
  | ok r0 r1 r2 =>
    rw [busRead_ok h]
    by_cases h10 : i = 10
    · subst h10
      simp only [if_true]
      exact .loadedLast r0 r1 r2 _ h hq hc
    · simp only [h10, if_false]
      exact .loaded r0 r1 r2 i _ h hq (by omega) hc

/-- The word of `S_CAL_RD` decodes to the read of the coefficient `CALIDX` names, and to nothing above 10. -/
theorem decode_calWord (i : BitVec 4) :
    decodeWord (.bus (readKey 2 (calReg i.toNat))) =
      ([Instr.rdAc1, .rdAc2, .rdAc3, .rdAc4, .rdAc5, .rdAc6, .rdB1, .rdB2, .rdMb, .rdMc, .rdMd].map Except.ok)[i.toNat]?.getD
        (.error (.notABusRead (readKey 2 (calReg i.toNat)))) := by
  revert i; decide

/-- The word of `S_P_CMD` decodes to the pressure command of the mode. -/
theorem decode_commandP (m : BitVec 2) : decodeWord (.ctrl (commandP m)) = .ok (.measP m.toNat) := by
  revert m; decide

/-- What a step can do. -/
theorem step_move (h : step s = .next t) : Move s t := by
  obtain ⟨w, i, hf, hd, hx⟩ | ⟨hf, rfl⟩ := step_cases h
  · unfold State.fetch at hf
    split at hf
    · cases hf; cases hd; exact move_of_host _ ‹_› hx
    · rename_i r he
      unfold State.busWord at hf
      split at hf <;> cases hf
      · rename_i hq
        rw [decode_calWord] at hd
        have hlt := s.calIdx.isLt
        generalize hc : s.calIdx.toNat = n at hd hlt
        interval_cases n <;> simp at hd <;> subst hd <;> cases hx <;>
          exact move_of_load he hq _ (by decide) hc _
      · cases hd; cases hx
        cases r with
        | fail => rw [busWrite_fail he]; exact .commandTFailed he ‹_›
        | ok r0 r1 r2 => rw [busWrite_ok he]; exact .commandT r0 r1 r2 he ‹_›
      · cases hd; cases hx
        cases r with
        | fail => rw [busRead_fail he]; exact .readTFailed he ‹_›
        | ok r0 r1 r2 => rw [busRead_ok he]; exact .readT r0 r1 r2 he ‹_›
      · rw [decode_commandP] at hd
        cases hd; cases hx
        rw [BitVec.ofNat_toNat, BitVec.setWidth_eq]
        cases r with
        | fail => rw [busWrite_fail he]; exact .commandPFailed he ‹_›
        | ok r0 r1 r2 => rw [busWrite_ok he]; exact .commandP r0 r1 r2 he ‹_›
      · cases hd; cases hx
        cases r with
        | fail => rw [busRead_fail he]; exact .readPFailed he ‹_›
        | ok r0 r1 r2 => rw [busRead_ok he]; exact .readP r0 r1 r2 he ‹_›
    all_goals cases hf
  · unfold State.internal
    split
    · exact .reset ‹_›
    · rename_i he
      obtain ⟨hq, hd, e⟩ | ⟨-, e⟩ := tick_cases s <;> rw [e]
      · exact .ticked he hq hd
      · exact .nothing (by rw [he]; exact Event.noConfusion)
    · rename_i he
      obtain ⟨hq, hd, e⟩ | ⟨hq, hd, e⟩ | ⟨hq, e⟩ | ⟨-, -, e⟩ := spontaneous_cases s <;> rw [e]
      · exact .leaveT he hq hd
      · exact .leaveP he hq hd
      · obtain ⟨c, e, hc⟩ | ⟨ho, -, e⟩ | ⟨ho, -, p, -, e⟩ := evaluate_cases s <;> rw [e]
        · exact .engineError c he hq hc
        · exact .temperature _ he hq ho
        · exact .pressure _ he hq ho
      · exact .nothing (by rw [he]; exact Event.noConfusion)
    · exact .nothing (by rename_i he; rw [he]; exact Event.noConfusion)
    · exact .nothing (by rename_i he; rw [he]; exact Event.noConfusion)

end Sys2Proof.Machine
end

