-- ==== Sys2Proof/Tests/Slice0.lean ====
section
/-! SUPPORT. Tests against the spec's own vectors (spec/95_test_vectors.md and the examples of the rules), the smoke test of
the well-formedness checks, and a witness for the hypotheses of every obligation that has some. -/

namespace Sys2Proof.Tests

open Sys2Proof Sys2Proof.Machine

/-! ### Helpers -/

/-- The golden calibration G (spec/95, D0 §8). -/
def golden : Cal :=
  { ac1 := 408, ac2 := -72, ac3 := -14383, ac4 := 32741, ac5 := 32757, ac6 := 23153, b1 := 6190, b2 := 4,
    mb := -32768, mc := -8711, md := 2868 }

/-- A block with the golden calibration, in a sequencer state, with events to come. -/
def block (q : Seq) (script : List Event) : State :=
  { State.reset with cal := golden, calValid := true, seq := q, op := .press, busy := decide (q ≠ .idle), script := script }

/-- A block that holds no calibration, in a sequencer state of a CONSTRUCT. -/
def bare (q : Seq) (script : List Event) : State :=
  { State.reset with seq := q, busy := decide (q ≠ .idle), script := script }

/-- A check on the state one step leads to. -/
def after (s : State) (p : State → Bool) : Bool :=
  match step s with
  | .next t => p t
  | .fault _ => false
  | .refused _ => false

/-- A check on the answer of the temperature path. -/
def tempIs (c : Cal) (ut : BitVec 16) (b5v t : Int) : Bool :=
  match compT c ut with
  | .ok v => decide (v = (b5v, t))
  | .error _ => false

/-- A check on the answer of the pressure path. -/
def pressIs (g : Config.Engine) (c : Cal) (b5v up : Int) (oss : Nat) (p : Int) : Bool :=
  match compP g c b5v up oss with
  | .ok v => decide (v = p)
  | .error _ => false

/-- A check on the error of the pressure path. -/
def pressFails (c : Cal) (b5v up : Int) (oss : Nat) (e : ErrCode) : Bool :=
  match compP {} c b5v up oss with
  | .ok _ => false
  | .error v => decide (v = e)

/-! ### Well-formedness: an ill-formed term for each check -/

theorem test_wf_refuses :
    Instr.wellFormed (.construct 4) = false ∧ Instr.wellFormed (.setMode 4) = false ∧
    Instr.wellFormed (.readTemperature 4) = false ∧ Instr.wellFormed (.readPressure 7) = false ∧
    Instr.wellFormed (.reserved0 4) = false ∧ Instr.wellFormed (.reserved5 4) = false ∧
    Instr.wellFormed (.reserved6 4) = false ∧ Instr.wellFormed (.reserved7 4) = false ∧
    Instr.wellFormed (.measP 4) = false := by decide

theorem test_wf_accepts :
    Instr.wellFormed (.construct 3) = true ∧ Instr.wellFormed (.measP 0) = true ∧ Instr.wellFormed .measT = true := by decide

/-! ### Decoding: words written out from R95, R96, R93, one for each constructor -/

theorem test_decode_host :
    decode [0b00000110#8] = .ok (.construct 2) ∧ decode [0b00001011#8] = .ok (.setMode 3) ∧
    decode [0b00001100#8] = .ok (.readTemperature 0) ∧ decode [0b00010011#8] = .ok (.readPressure 3) ∧
    decode [0b00000001#8] = .ok (.reserved0 1) ∧ decode [0b00010100#8] = .ok (.reserved5 0) ∧
    decode [0b00011010#8] = .ok (.reserved6 2) ∧ decode [0b00011111#8] = .ok (.reserved7 3) := by decide

theorem test_decode_ctrl :
    decode [0b00101110#8] = .ok .measT ∧ decode [0b00110100#8] = .ok (.measP 0) ∧ decode [0b01110100#8] = .ok (.measP 1) ∧
    decode [0b10110100#8] = .ok (.measP 2) ∧ decode [0b11110100#8] = .ok (.measP 3) := by decide

theorem test_decode_bus :
    decode [0xAA#8, 2#8] = .ok .rdAc1 ∧ decode [0xAC#8, 2#8] = .ok .rdAc2 ∧ decode [0xAE#8, 2#8] = .ok .rdAc3 ∧
    decode [0xB0#8, 2#8] = .ok .rdAc4 ∧ decode [0xB2#8, 2#8] = .ok .rdAc5 ∧ decode [0xB4#8, 2#8] = .ok .rdAc6 ∧
    decode [0xB6#8, 2#8] = .ok .rdB1 ∧ decode [0xB8#8, 2#8] = .ok .rdB2 ∧ decode [0xBA#8, 2#8] = .ok .rdMb ∧
    decode [0xBC#8, 2#8] = .ok .rdMc ∧ decode [0xBE#8, 2#8] = .ok .rdMd ∧ decode [0xF6#8, 2#8] = .ok .rdDataT ∧
    decode [0xF6#8, 3#8] = .ok .rdDataP := by decide

/-- R92, R101: bytes never written, a length no read has, registers never read. -/
theorem test_decode_rejects :
    decode [0x6E#8] = .error (.notACommandByte 0x6E) ∧ decode [0x35#8] = .error (.notACommandByte 0x35) ∧
    decode [0xAA#8, 3#8] = .error (.notABusRead 0x3AA) ∧ decode [0xC0#8, 2#8] = .error (.notABusRead 0x2C0) ∧
    decode [0xAA#8, 4#8] = .error (.notAKey 4) ∧ decode [] = .error .noBytes ∧ decode [0#8, 0#8, 0#8] = .error .tooLong := by
  decide

/-- The rows of the opcode table as the table numbers them. -/
theorem test_decodeTableWord :
    decodeTableWord 8 0x04 = some (.construct 0) ∧ decodeTableWord 8 0x1C = some (.reserved7 0) ∧
    decodeTableWord 8 0x2E = some .measT ∧ decodeTableWord 8 0xB4 = some (.measP 2) ∧
    decodeTableWord 16 0x2B4 = some .rdAc6 ∧ decodeTableWord 16 0x3F6 = some .rdDataP ∧
    decodeTableWord 16 0x2C0 = none := by decide

/-! ### Operand assembly -/

/-- V10. -/
theorem test_decodeSigned16 :
    decodeSigned16 0x00 0x80 = 128 ∧ decodeSigned16 0x7F 0xFF = 32767 ∧ decodeSigned16 0x80 0x00 = -32768 ∧
    decodeSigned16 0xFE 0x70 = -400 ∧ decodeSigned16 0xFF 0xFF = -1 ∧ decodeUnsigned16 0x80 0x00 = 32768 ∧
    decodeUnsigned16 0xFF 0xB8 = 65464 := by decide

/-- V11, V12. -/
theorem test_samples :
    (rawTemperature 0x6C 0xFA).toNat = 27898 ∧ (rawTemperature 0xFF 0xFF).toNat = 65535 ∧
    (rawPressure 0x5D 0x23 0xFF 0).toNat = 23843 ∧ (rawPressure 0x5D 0x23 0xFF 1).toNat = 47687 ∧
    (rawPressure 0x5D 0x23 0xFF 2).toNat = 95375 ∧ (rawPressure 0x5D 0x23 0xFF 3).toNat = 190751 ∧
    (rawPressure 0xFF 0xFF 0xFF 3).toNat = 524287 := by decide

/-- V13, V26. -/
theorem test_command_bytes :
    commandP 0 = 0x34 ∧ commandP 1 = 0x74 ∧ commandP 2 = 0xB4 ∧ commandP 3 = 0xF4 ∧
    pDelay 0 = 5 ∧ pDelay 1 = 5 ∧ pDelay 2 = 14 ∧ pDelay 3 = 26 := by decide

/-- R26, R27, R102. -/
theorem test_codes :
    Seq.comp.code = 8 ∧ Seq.pCmd.code = 5 ∧ OpKind.press.code = 2 ∧ ErrCode.illegalCommand.code = 4 ∧
    ErrCode.rangeFault.code = 3 := by decide

/-! ### The datapath and the engine -/

/-- V20, and the four sign cases of R124. -/
theorem test_primitives :
    asr (-32757) 15 = -1 ∧ asr (-3) 1 = -2 ∧ asr (-602) 4 = -38 ∧ asr (-515012071) 16 = -7859 ∧ asr 155431965 15 = 4743 ∧
    shl (-8711) 11 = -17840128 ∧ fdiv 7 2 = 3 ∧ fdiv (-7) 2 = -4 ∧ fdiv 7 (-2) = -4 ∧ fdiv (-7) (-2) = 3 ∧
    fdiv (-17840128) 7611 = -2344 ∧ fdiv 2355500000 (-22879) = -102955 ∧ absolute (-3943) = 3943 ∧
    lt 2147483648 2147483648 = false ∧ lt (-1) 2147483648 = true := by decide

/-- V30, V31. -/
theorem test_compT :
    tempIs golden 27898 2399 150 = true ∧ tempIs golden 0 (-22267) (-1392) = true ∧ tempIs golden 65535 41972 2623 = true ∧
    tempIs golden 23152 (-6224) (-389) = true ∧ tempIs golden 20284 17837259 1114829 = true ∧
    tempIs golden 20286 (-17842995) (-1115187) = true ∧ den golden 20285 = 0 := by decide

/-- V40, V41. -/
theorem test_compP :
    pressIs {} golden 2399 23843 0 69965 = true ∧ pressIs {} golden 2399 23843 1 34416 = true ∧
    pressIs {} golden 2399 190744 3 69964 = true ∧ pressIs {} golden 2399 95375 2 69966 = true ∧
    pressIs {} golden 2399 50000 0 148352 = true ∧ pressIs {} golden 2399 43372 0 128436 = true ∧
    pressIs {} golden 2399 0 0 (-1017) = true ∧ pressIs {} golden 2399 421 0 233 = true := by decide

/-- V42, V23, R207 (c). -/
theorem test_compP_other_sets :
    pressIs {} golden 5007 23843 0 72530 = true ∧
    pressIs {} ⟨-1, -1, -1, -1, -1, -1, -1, -1, -1, -1, -1⟩ (-131069) 0 0 (-566) = true ∧
    pressIs {} { golden with ac3 := -32768, b1 := 0 } 59665 23843 0 (-101528) = true := by decide

/-- V43: the parameters and the errors of the pressure path. -/
theorem test_compP_parameters :
    pressIs { sqForm := .split } golden 2399 23843 0 69964 = true ∧
    pressIs {} { golden with ac1 := -1000 } 2399 23843 0 68280 = true ∧
    pressIs { b3Abs := false } { golden with ac1 := -1000 } 2399 23843 0 74170 = true ∧
    pressFails { golden with ac4 := 0 } 2399 23843 0 .arithmeticError = true ∧
    pressFails { golden with ac4 := 1 } 2399 50000 0 .rangeFault = true ∧
    squareOverflows {} 3037000499 = false ∧ squareOverflows {} 3037000500 = true := by decide

/-- V6. -/
theorem test_dividerStage :
    dividerStage 2147483647 3 = 1431655764 ∧ dividerStage 2147483648 3 = 1431655764 ∧
    dividerStage 2147483649 3 = 1431655766 ∧ dividerStage (-21100000) 33457 = -1262 := by decide

/-! ### Steps -/

/-- R211, V50. -/
theorem test_construct :
    after (bare .idle [.start 0x06]) (fun t => decide (t.seq = .calRd ∧ t.busy = true ∧ t.mode = 2 ∧ t.calIdx = 0)) = true ∧
    after (block .idle [.start 0x04]) (fun t => decide (t.err = .illegalCommand ∧ t.seq = .idle ∧ t.done = true)) = true := by
  decide

/-- R212, V50. -/
theorem test_setMode :
    after (block .idle [.start 0x0B]) (fun t => decide (t.mode = 3 ∧ t.err = .ok ∧ t.done = true ∧ t.busy = false)) = true ∧
    after (bare .idle [.start 0x09]) (fun t => decide (t.mode = 0 ∧ t.err = .illegalCommand)) = true := by decide

/-- V25 step 1 (with the mode bits ignored), V50. -/
theorem test_readTemperature :
    after (block .idle [.start 0x0F]) (fun t => decide (t.seq = .tCmd ∧ t.op = .temp ∧ t.busy = true ∧ t.done = false)) = true ∧
    after (bare .idle [.start 0x0C]) (fun t => decide (t.err = .illegalCommand ∧ t.busy = false)) = true := by decide

/-- R214, V50. -/
theorem test_readPressure :
    after (block .idle [.start 0x12]) (fun t => decide (t.seq = .tCmd ∧ t.op = .press ∧ t.mode = 0)) = true ∧
    after (bare .idle [.start 0x10]) (fun t => decide (t.err = .illegalCommand)) = true := by decide

/-- V50: the four reserved codes. -/
theorem test_reserved :
    after (block .idle [.start 0x00]) (fun t => decide (t.err = .illegalCommand)) = true ∧
    after (block .idle [.start 0x14]) (fun t => decide (t.err = .illegalCommand)) = true ∧
    after (bare .idle [.start 0x18]) (fun t => decide (t.err = .illegalCommand)) = true ∧
    after (bare .idle [.start 0x1C]) (fun t => decide (t.err = .illegalCommand)) = true := by decide

/-- R216: a command while an operation runs. -/
theorem test_command_while_busy :
    after (block .pWait [.start 0x1C]) (fun t => decide (t.err = .ok ∧ t.done = false ∧ t.seq = .pWait)) = true := by decide

/-- V25 step 2, V27. -/
theorem test_measT :
    after (block .tCmd [.reply (.ok 9 9 9)])
      (fun t => decide (t.delay = 5 ∧ t.seq = .tWait ∧ t.transcript = [.write 0x77 0xF4 0x2E true])) = true ∧
    after (block .tCmd [.reply .fail]) (fun t => decide (t.err = .transportError ∧ t.seq = .idle ∧ t.calValid = true)) = true := by
  decide

/-- R154 with `MODE = 3`, V27. -/
theorem test_measP :
    after { block .pCmd [.reply (.ok 0 0 0)] with mode := 3 }
      (fun t => decide (t.delay = 26 ∧ t.seq = .pWait ∧ t.transcript = [.write 0x77 0xF4 0xF4 true])) = true ∧
    after (block .pCmd [.reply .fail]) (fun t => decide (t.err = .transportError ∧ t.delay = 0 ∧ t.busy = false)) = true := by
  decide

/-- The golden load GL, one read at a time (V21). -/
theorem test_rd_signed :
    after { bare .calRd [.reply (.ok 0x01 0x98 0)] with calIdx := 0 } (fun t => decide (t.cal.ac1 = golden.ac1 ∧ t.calIdx = 1)) = true ∧
    after { bare .calRd [.reply (.ok 0xFF 0xB8 0)] with calIdx := 1 } (fun t => decide (t.cal.ac2 = golden.ac2)) = true ∧
    after { bare .calRd [.reply (.ok 0xC7 0xD1 0)] with calIdx := 2 } (fun t => decide (t.cal.ac3 = golden.ac3)) = true ∧
    after { bare .calRd [.reply (.ok 0x18 0x2E 0)] with calIdx := 6 } (fun t => decide (t.cal.b1 = golden.b1)) = true ∧
    after { bare .calRd [.reply (.ok 0x00 0x04 0)] with calIdx := 7 } (fun t => decide (t.cal.b2 = golden.b2)) = true ∧
    after { bare .calRd [.reply (.ok 0x80 0x00 0)] with calIdx := 8 } (fun t => decide (t.cal.mb = golden.mb)) = true ∧
    after { bare .calRd [.reply (.ok 0xDD 0xF9 0)] with calIdx := 9 } (fun t => decide (t.cal.mc = golden.mc ∧ t.calIdx = 10)) = true := by
  decide

theorem test_rd_unsigned :
    after { bare .calRd [.reply (.ok 0x7F 0xE5 0)] with calIdx := 3 } (fun t => decide (t.cal.ac4 = golden.ac4 ∧
      t.transcript = [.read 0x77 0xB0 2 (some [0x7F, 0xE5])])) = true ∧
    after { bare .calRd [.reply (.ok 0x7F 0xF5 0)] with calIdx := 4 } (fun t => decide (t.cal.ac5 = golden.ac5)) = true ∧
    after { bare .calRd [.reply (.ok 0x5A 0x71 0)] with calIdx := 5 } (fun t => decide (t.cal.ac6 = golden.ac6 ∧ t.seq = .calRd)) = true := by
  decide

/-- R143. -/
theorem test_rdMd :
    after { bare .calRd [.reply (.ok 0x0B 0x34 0)] with calIdx := 10 }
      (fun t => decide (t.cal.md = golden.md ∧ t.calValid = true ∧ t.seq = .idle ∧ t.done = true ∧ t.calIdx = 10)) = true := by
  decide

/-- V24; R218: a CONSTRUCT touches no sample. -/
theorem test_calibration_read_fails :
    after { bare .calRd [.reply .fail] with calIdx := 3, ut := 5, up := 6 }
      (fun t => decide (t.ut = 5 ∧ t.up = 6 ∧ t.err = .transportError ∧ t.calValid = false ∧ t.seq = .idle ∧
        t.transcript = [.read 0x77 0xB0 2 none])) = true := by decide

/-- V25 step 9, V27; R158: a failure writes no `UT`. -/
theorem test_rdDataT :
    after { block .tRead [.reply (.ok 0x6C 0xFA 0)] with op := .temp } (fun t => decide (t.ut = 27898 ∧ t.seq = .comp)) = true ∧
    after (block .tRead [.reply (.ok 0x6C 0xFA 0)]) (fun t => decide (t.ut = 27898 ∧ t.seq = .pCmd)) = true ∧
    after { block .tRead [.reply .fail] with ut := 5, up := 6 } (fun t => decide (t.ut = 5 ∧ t.up = 6)) = true := by decide

/-- R156; R158: a failure writes no `UP`. -/
theorem test_rdDataP :
    after { block .pRead [.reply (.ok 0x5D 0x23 0x00)] with mode := 3 } (fun t => decide (t.up = 190744 ∧ t.seq = .comp)) = true ∧
    after { block .pRead [.reply .fail] with up := 5 } (fun t => decide (t.err = .transportError ∧ t.up = 5)) = true := by decide

/-- V25 steps 3 to 8, R159. -/
theorem test_tick_and_wait :
    after { block .tWait [.tick] with delay := 5 } (fun t => decide (t.delay = 4 ∧ t.seq = .tWait)) = true ∧
    after (block .tWait [.tick]) (fun t => decide (t.delay = 0 ∧ t.seq = .tWait ∧ t.transcript = [])) = true ∧
    after { block .tRead [.tick] with delay := 5 } (fun t => decide (t.delay = 5)) = true ∧
    after { block .tWait [.quiet] with delay := 1 } (fun t => decide (t.seq = .tWait)) = true ∧
    after (block .tWait [.quiet]) (fun t => decide (t.seq = .tRead)) = true ∧
    after (block .pWait [.quiet]) (fun t => decide (t.seq = .pRead)) = true := by decide

/-- V25 step 10, P2 line 2, V51. -/
theorem test_comp :
    after { block .comp [.quiet] with op := .temp, ut := 27898 }
      (fun t => decide (t.resT = 150 ∧ t.tValid = true ∧ t.pValid = false ∧ t.seq = .idle ∧ t.done = true)) = true ∧
    after { block .comp [.quiet] with ut := 27898, up := 23843 }
      (fun t => decide (t.resP = 69965 ∧ t.pValid = true ∧ t.tValid = false ∧ t.resT = 0)) = true ∧
    after { block .comp [.quiet] with ut := 20285, cal := { golden with ac4 := 0 } }
      (fun t => decide (t.err = .arithmeticError ∧ t.pValid = false ∧ t.busy = false)) = true := by decide

/-- P7, V52. -/
theorem test_reset :
    after { block .tWait [.reset] with delay := 3, transcript := [.write 0x77 0xF4 0x2E true] }
      (fun t => decide (t.seq = .idle ∧ t.busy = false ∧ t.done = false ∧ t.err = .ok ∧ t.calValid = false ∧
        t.transcript = [.write 0x77 0xF4 0x2E true])) = true := by decide

/-- R103, R268: a result without its flag is not read. -/
theorem test_response :
    State.response { block .idle [] with resT := 150, tValid := true, done := true } = ⟨false, true, 0, some 150, none⟩ ∧
    State.response { block .idle [] with resT := 150, done := true, err := .transportError } = ⟨false, true, 1, none, none⟩ := by
  decide

/-- A word of each format placed at reset is the one the next step takes up. -/
theorem test_withFetchWord :
    (State.reset.withFetchWord 8 0x0D).fetch = some (.host 0x0D) ∧
    (State.reset.withFetchWord 8 0xB4).fetch = some (.ctrl 0xB4) ∧
    (State.reset.withFetchWord 8 0x2E).fetch = some (.ctrl 0x2E) ∧
    (State.reset.withFetchWord 16 0x2BC).fetch = some (.bus 0x2BC) ∧
    (State.reset.withFetchWord 16 0x2F6).fetch = some (.bus 0x2F6) ∧
    (State.reset.withFetchWord 16 0x3F6).fetch = some (.bus 0x3F6) := by decide

/-! ### Witnesses: for every obligation with hypotheses, a state and operands that meet all of them -/

/-- A READ_PRESSURE in its temperature wait. -/
def waiting (e : Event) : State :=
  { block .tWait [e] with delay := 3, transcript := [.wait, .wait, .write 0x77 0xF4 0x2E true] }

/-- A READ_PRESSURE about to read the temperature back. -/
def reading (e : Event) : State :=
  { block .tRead [e] with
    transcript := [.wait, .wait, .wait, .wait, .wait, .write 0x77 0xF4 0x2E true] }

/-- A READ_PRESSURE about to evaluate, with the golden samples. -/
def evaluating (o : OpKind) : State :=
  { block .comp [.quiet] with op := o, ut := 27898, up := 23843 }

/-- A READ_TEMPERATURE at a quiet event. -/
def measuringT (q : Seq) : State :=
  { block q [.quiet] with op := .temp, ut := 20285 }

theorem measuringT_inv : (measuringT .comp).Inv := by constructor <;> decide

theorem waiting_inv : (waiting (.start 0x0C)).Inv := by constructor <;> decide

theorem reading_inv : (reading (.reply .fail)).Inv := by constructor <;> decide

theorem idle_inv : (block .idle [.start 0x0C]).Inv := by constructor <;> decide

theorem loading_inv : (bare .calRd [.reply (.ok 1 2 0)]).Inv := by constructor <;> decide

theorem waiting_delayInv : (waiting .tick).DelayInv := by
  constructor <;> simp [waiting, block, State.reset, delayRespected, sinceCommand]

theorem reading_delayInv : (reading (.reply (.ok 1 2 3))).DelayInv := by
  constructor <;> simp [reading, block, State.reset, delayRespected, sinceCommand]

theorem witness_DecodeOfEncodedBytes : Instr.wellFormed (.measP 3) = true := by decide

theorem witness_EncodeOfDecodedWord : decodeWord (.bus 0x2BA) = .ok .rdMb := by decide

theorem witness_StepRunsTheDecodedWord :
    ((reading (.reply .fail)).fetch = some (.bus 0x2F6) ∧ decodeWord (.bus 0x2F6) = .ok .rdDataT) ∧
    ({ bare .calRd [.reply .fail] with calIdx := 11 }.fetch = some (.bus 0x2C0) ∧
      decodeWord (.bus 0x2C0) = .error (.notABusRead 0x2C0)) ∧
    (waiting .tick).fetch = none := by decide

theorem witness_WordTakenUpInEachState :
    (block .idle [.start 0x1F]).event = .start 0x1F ∧ (waiting .quiet).event = .quiet ∧
    (waiting .tick).event = .tick ∧ (waiting .reset).event = .reset ∧ (reading (.reply .fail)).event = .reply .fail ∧
    (block .tCmd []).seq = .tCmd ∧ (block .pCmd []).seq = .pCmd ∧ (block .pRead []).seq = .pRead ∧
    ({ bare .calRd [] with calIdx := 10 }.seq = .calRd ∧ { bare .calRd [] with calIdx := 10 }.calIdx.toNat ≤ 10) ∧
    ((block .tWait [.reply .fail]).event = .reply .fail ∧ (block .tWait [.reply .fail]).seq = .tWait) ∧
    ((block .idle [.reply .fail]).event = .reply .fail ∧ (block .idle [.reply .fail]).seq = .idle) := by decide

theorem witness_SequencerFollowsTransitionTable : ∃ t, step (reading (.reply .fail)) = .next t := ⟨_, rfl⟩

theorem witness_StepNeverStopsUnderInv : (waiting (.start 0x0C)).Inv := waiting_inv

theorem witness_ResetEventClearsControlBits : (waiting .reset).event = .reset := by decide

theorem witness_RegisterInvariantKept :
    (reading (.reply .fail)).Inv ∧ ∃ t, step (reading (.reply .fail)) = .next t := ⟨reading_inv, _, rfl⟩

theorem witness_TranscriptStaysLegal :
    transcriptLegal (reading (.reply .fail)).transcript ∧ ∃ t, step (reading (.reply .fail)) = .next t :=
  ⟨by simp [transcriptLegal, reading, BusEntry.legal], _, rfl⟩

theorem witness_DelayBeforeReadBackKept :
    (reading (.reply (.ok 1 2 3))).DelayInv ∧ ∃ t, step (reading (.reply (.ok 1 2 3))) = .next t :=
  ⟨reading_delayInv, _, rfl⟩

theorem witness_CalibrationImmutable :
    (reading (.reply .fail)).Inv ∧ (reading (.reply .fail)).calValid = true ∧ (reading (.reply .fail)).event ≠ .reset ∧
    ∃ t, step (reading (.reply .fail)) = .next t := ⟨reading_inv, by decide, by decide, _, rfl⟩

theorem witness_ModeConstantDuringMeasurement :
    (reading (.reply .fail)).seq ≠ .idle ∧ (reading (.reply .fail)).seq ≠ .calRd ∧
    (reading (.reply .fail)).event ≠ .reset ∧ ∃ t, step (reading (.reply .fail)) = .next t :=
  ⟨by decide, by decide, by decide, _, rfl⟩

theorem witness_SamplesChangeInTheirOperationOnly :
    ((block .idle [.start 0x0C]).Inv ∧ (block .idle [.start 0x0C]).event ≠ .reset ∧ (block .idle [.start 0x0C]).seq = .idle ∧
      ∃ t, step (block .idle [.start 0x0C]) = .next t) ∧
    ((bare .calRd [.reply (.ok 1 2 0)]).Inv ∧ (bare .calRd [.reply (.ok 1 2 0)]).event ≠ .reset ∧
      (bare .calRd [.reply (.ok 1 2 0)]).op = .construct ∧ ∃ t, step (bare .calRd [.reply (.ok 1 2 0)]) = .next t) ∧
    ((measuringT .comp).Inv ∧ (measuringT .comp).event ≠ .reset ∧ (measuringT .comp).op = .temp ∧
      ∃ t, step (measuringT .comp) = .next t) :=
  ⟨⟨idle_inv, by decide, by decide, _, rfl⟩, ⟨loading_inv, by decide, by decide, _, rfl⟩,
    measuringT_inv, by decide, by decide, _, rfl⟩

theorem witness_OnlyFiveCommandBytes :
    (∃ t, step (block .tCmd [.reply .fail]) = .next t ∧
      t.transcript = .write 0x77 0xF4 0x2E false :: (block .tCmd [.reply .fail]).transcript) ∧
    ∃ t, step { block .pCmd [.reply .fail] with mode := 3 } = .next t ∧
      t.transcript = .write 0x77 0xF4 0xF4 false :: { block .pCmd [.reply .fail] with mode := 3 }.transcript :=
  ⟨⟨_, rfl, by decide⟩, _, rfl, by decide⟩

theorem witness_RunningOperationEnds :
    (reading (.reply .fail)).Inv ∧ (reading (.reply .fail)).busy = true ∧ (reading (.reply .fail)).event ≠ .reset ∧
    ∃ t, step (reading (.reply .fail)) = .next t ∧ t.busy = false ∧ t.err ≠ .ok :=
  ⟨reading_inv, by decide, by decide, _, rfl, by decide⟩

theorem failed_inv : { block .idle [] with done := true, err := .rangeFault }.Inv := by constructor <;> decide

theorem witness_ResponseShowsOnlyValidResults :
    { block .idle [] with done := true, err := .rangeFault }.Inv ∧
    { block .idle [] with done := true, err := .rangeFault }.response.err ≠ 0 := ⟨failed_inv, by decide⟩

theorem witness_ConstructStarts : (bare .idle []).seq = .idle ∧ (bare .idle []).calValid = false := by decide

theorem witness_SetModeCompletesAtOnce :
    ((block .idle []).seq = .idle ∧ (block .idle []).calValid = true) ∧
    ((bare .idle []).seq = .idle ∧ (bare .idle []).calValid = false) := by decide

theorem witness_ReadOperationsStart : (block .idle []).seq = .idle ∧ (block .idle []).calValid = true := by decide

theorem witness_IllegalCommandsRefused :
    ((block .idle []).seq = .idle ∧ (Instr.reserved5 2 = .reserved0 2 ∨ Instr.reserved5 2 = .reserved5 2 ∨
      Instr.reserved5 2 = .reserved6 2 ∨ Instr.reserved5 2 = .reserved7 2)) ∧
    ((bare .idle []).seq = .idle ∧ (Instr.setMode 1 = .setMode 1 ∨ Instr.setMode 1 = .readTemperature 1 ∨
      Instr.setMode 1 = .readPressure 1) ∧ (bare .idle []).calValid = false) ∧
    ((block .idle []).seq = .idle ∧ Instr.construct 1 = .construct 1 ∧ (block .idle []).calValid = true) := by decide

theorem witness_CommandWhileBusyIgnored :
    (waiting (.start 0x0C)).Inv ∧ (waiting (.start 0x0C)).busy = true ∧ (waiting (.start 0x0C)).event = .start 0x0C :=
  ⟨waiting_inv, by decide, by decide⟩

theorem witness_HostCommandFrame :
    ∃ t, exec (.setMode 2) (block .idle []) = .next t ∧ t.mode = 2 := ⟨_, rfl, by decide⟩

theorem witness_MeasTWritesCommand :
    (block .tCmd [.reply (.ok 7 8 9)]).event = .reply (.ok 7 8 9) ∧ (block .tCmd [.reply .fail]).event = .reply .fail := by
  decide

theorem witness_MeasPWritesCommand :
    (block .pCmd [.reply (.ok 7 8 9)]).event = .reply (.ok 7 8 9) ∧ (block .pCmd [.reply .fail]).event = .reply .fail := by
  decide

theorem witness_MeasurementFailureAborts :
    (block .pCmd [.reply .fail]).event = .reply .fail ∧
    ∃ e : BusEntry, (Instr.measP 1 = .measT ∧ e = .write 0x77 0xF4 0x2E false) ∨
     (Instr.measP 1 = .measP 1 ∧ e = .write 0x77 0xF4 (BitVec.ofNat 2 1 ++ 0x34#6) false) ∨
     (Instr.measP 1 = .rdDataT ∧ e = .read 0x77 0xF6 2 none) ∨
     (Instr.measP 1 = .rdDataP ∧ e = .read 0x77 0xF6 3 none) := ⟨by decide, _, .inr (.inl ⟨rfl, rfl⟩)⟩

theorem witness_CommandWriteFrame :
    (Instr.measP 1 = .measT ∨ Instr.measP 1 = .measP 1) ∧
    ∃ t, exec (.measP 1) (block .pCmd [.reply .fail]) = .next t := ⟨by decide, _, rfl⟩

theorem witness_CoefficientReadsLoad :
    (bare .calRd [.reply (.ok 0xFF 0xB8 0)]).event = .reply (.ok 0xFF 0xB8 0) := by decide

theorem witness_CoefficientReadFailureAborts :
    (bare .calRd [.reply .fail]).event = .reply .fail ∧
    (Instr.rdMd, 0xBE#8) ∈ [(Instr.rdAc1, 0xAA#8), (.rdAc2, 0xAC#8), (.rdAc3, 0xAE#8), (.rdAc4, 0xB0#8), (.rdAc5, 0xB2#8),
      (.rdAc6, 0xB4#8), (.rdB1, 0xB6#8), (.rdB2, 0xB8#8), (.rdMb, 0xBA#8), (.rdMc, 0xBC#8), (.rdMd, 0xBE#8)] := by decide

theorem witness_CoefficientReadFrame :
    Instr.rdB1 ∈ [Instr.rdAc1, .rdAc2, .rdAc3, .rdAc4, .rdAc5, .rdAc6, .rdB1, .rdB2, .rdMb, .rdMc, .rdMd] ∧
    ∃ t, exec .rdB1 (bare .calRd [.reply .fail]) = .next t := ⟨by decide, _, rfl⟩

theorem witness_TemperatureReadBack :
    (reading (.reply (.ok 0x6C 0xFA 0))).event = .reply (.ok 0x6C 0xFA 0) ∧
    (reading (.reply .fail)).event = .reply .fail := by decide

theorem witness_PressureReadBack :
    (block .pRead [.reply (.ok 0x5D 0x23 0xFF)]).event = .reply (.ok 0x5D 0x23 0xFF) ∧
    (block .pRead [.reply .fail]).event = .reply .fail := by decide

theorem witness_ReadBackFrame :
    (Instr.rdDataT = .rdDataT ∨ Instr.rdDataT = .rdDataP) ∧ ∃ t, exec .rdDataT (reading (.reply .fail)) = .next t :=
  ⟨by decide, _, rfl⟩

theorem witness_TransactionWaitsForTransport :
    ((block .tCmd [.tick]).seq = .tCmd ∧ (block .tCmd [.tick]).event = .tick) ∧
    ({ bare .calRd [.quiet] with calIdx := 11 }.seq = .calRd ∧ { bare .calRd [.quiet] with calIdx := 11 }.event = .quiet) ∧
    ((block .pRead [.start 0x1F]).seq = .pRead ∧ (block .pRead [.start 0x1F]).event = .start 0x1F) ∧
    ((block .idle [.quiet]).seq = .idle ∧ (block .idle [.quiet]).event = .quiet) ∧
    ((bare .idle [.tick]).seq = .idle ∧ (bare .idle [.tick]).event = .tick) := by decide

theorem witness_TickCountsDelayDown :
    ((waiting .tick).event = .tick ∧ ((waiting .tick).seq = .tWait ∨ (waiting .tick).seq = .pWait) ∧
      0 < (waiting .tick).delay.toNat) ∧
    ((block .tWait [.tick]).event = .tick ∧ ¬ (((block .tWait [.tick]).seq = .tWait ∨
      (block .tWait [.tick]).seq = .pWait) ∧ 0 < (block .tWait [.tick]).delay.toNat)) := by decide

theorem witness_WaitingStateLeftAtZero :
    ((block .tWait [.quiet]).event = .quiet ∧ (block .tWait [.quiet]).seq = .tWait ∧ (block .tWait [.quiet]).delay = 0) ∧
    ((block .pWait [.quiet]).event = .quiet ∧ (block .pWait [.quiet]).seq = .pWait ∧ (block .pWait [.quiet]).delay = 0) ∧
    ((waiting .quiet).event = .quiet ∧ (waiting .quiet).seq = .tWait ∧ (waiting .quiet).delay ≠ 0) := by decide

/-- V30. -/
theorem witness_TemperatureDelivered :
    (evaluating .temp).event = .quiet ∧ (evaluating .temp).seq = .comp ∧ (evaluating .temp).op = .temp ∧
    (4743 : Int) = (((evaluating .temp).ut.toNat : Int) - ((evaluating .temp).cal.ac6.toNat : Int)) *
      ((evaluating .temp).cal.ac5.toNat : Int) / 32768 ∧
    (4743 : Int) + (evaluating .temp).cal.md.toInt ≠ 0 ∧
    (-2344 : Int) = Int.fdiv ((evaluating .temp).cal.mc.toInt * 2048) (4743 + (evaluating .temp).cal.md.toInt) := by decide

/-- V40. -/
theorem witness_PressureDelivered :
    (evaluating .press).event = .quiet ∧ (evaluating .press).seq = .comp ∧ (evaluating .press).op = .press ∧
    (4743 : Int) = (((evaluating .press).ut.toNat : Int) - ((evaluating .press).cal.ac6.toNat : Int)) *
      ((evaluating .press).cal.ac5.toNat : Int) / 32768 ∧
    (4743 : Int) + (evaluating .press).cal.md.toInt ≠ 0 ∧
    (2399 : Int) = 4743 + Int.fdiv ((evaluating .press).cal.mc.toInt * 2048) (4743 + (evaluating .press).cal.md.toInt) ∧
    (-1601 : Int) = 2399 - 4000 ∧ (625 : Int) = -1601 * -1601 / 4096 ∧
    (422 : Int) = ((((evaluating .press).cal.ac1.toInt * 4 + ((evaluating .press).cal.b2.toInt * 625 / 2048 +
      (evaluating .press).cal.ac2.toInt * -1601 / 2048)).natAbs : Int) * 2 ^ (evaluating .press).mode.toNat + 2) / 4 ∧
    (717 : Int) = ((evaluating .press).cal.ac3.toInt * -1601 / 8192 + (evaluating .press).cal.b1.toInt * 625 / 65536 + 2) / 4 ∧
    (33457 : Int) = ((evaluating .press).cal.ac4.toNat : Int) * (717 + 32768) / 32768 ∧ (33457 : Int) ≠ 0 ∧
    (1171050000 : Int) = (((evaluating .press).up.toNat : Int) - 422) * (50000 / 2 ^ (evaluating .press).mode.toNat) ∧
    (70003 : Int) = (if (1171050000 : Int) < 0x80000000 then Int.fdiv (1171050000 * 2) 33457
      else Int.fdiv 1171050000 33457 * 2) ∧
    (70003 : Int) * 70003 ≤ 9223372036854775807 ∧ (3466 : Int) = 70003 * 70003 / 65536 * 3038 / 65536 ∧
    (-7859 : Int) = -7357 * 70003 / 65536 := by decide

/-- V30 with `UT = 20285`, V43 with `ac4 = 0`. -/
theorem witness_ZeroDivisorAborts :
    (({ evaluating .temp with ut := 20285 } : State).event = .quiet ∧ den golden 20285 = 0) ∧
    (({ evaluating .press with cal := { golden with ac4 := 0 } } : State).op ≠ .temp ∧
      b4 { golden with ac4 := 0 } (b5 { golden with ac4 := 0 } 27898) = 0) := by decide

/-- V43 with `ac4 = 1`, `UP = 50000`. -/
theorem witness_WideSquareAborts :
    let s : State := { evaluating .press with cal := { golden with ac4 := 1 }, up := 50000 }
    s.event = .quiet ∧ s.seq = .comp ∧ s.op ≠ .temp ∧ den s.cal s.ut ≠ 0 ∧ b4 s.cal (b5 s.cal s.ut) ≠ 0 ∧
    4957800000 = p0 engine s.cal (b5 s.cal s.ut) (s.up.toNat : Int) s.mode.toNat ∧ 3037000500 ≤ (4957800000 : Int).natAbs := by
  decide

theorem witness_PrimitivesAreFloors :
    ((2 : Int) ≠ 0 ∧ (1 : Int) = -7 - fdiv (-7) 2 * 2 ∧ (0 : Int) < 2) ∧
    ((-2 : Int) ≠ 0 ∧ (-1 : Int) = 7 - fdiv 7 (-2) * -2 ∧ (-2 : Int) < 0) := by decide

theorem witness_FloorFromTruncatingDivider :
    (-2 : Int) ≠ 0 ∧ (-3 : Int) = Int.tdiv 7 (-2) ∧ (1 : Int) = 7 - -3 * -2 := by decide

theorem witness_DecodingsReadTheBigEndianPair :
    (-32768 ≤ (-72 : Int) ∧ (-72 : Int) ≤ 32767) ∧ 65535 ≤ 65535 := by decide

theorem witness_ThresholdNeverReached : 3 ≤ 3 := by decide

theorem witness_EngineValuesFitDatapath :
    3 ≤ 3 ∧ 190744 < 2 ^ (16 + 3) ∧ den golden 27898 ≠ 0 ∧ b4 golden (b5 golden 27898) ≠ 0 ∧
    squareOverflows engine (p0 engine golden (b5 golden 27898) (190744 : Nat) 3) = false := by decide

theorem witness_UnusedInputsDoNotMatter :
    golden ≠ { golden with mb := 7 } ∧ golden.ac5 = { golden with mb := 7 }.ac5 ∧ golden.ac6 = { golden with mb := 7 }.ac6 ∧
    golden.mc = { golden with mb := 7 }.mc ∧ golden.md = { golden with mb := 7 }.md ∧
    golden.ac1 = { golden with mb := 7 }.ac1 ∧ golden.ac2 = { golden with mb := 7 }.ac2 ∧
    golden.ac3 = { golden with mb := 7 }.ac3 ∧ golden.ac4 = { golden with mb := 7 }.ac4 ∧
    golden.b1 = { golden with mb := 7 }.b1 ∧ golden.b2 = { golden with mb := 7 }.b2 := by decide

theorem witness_ConstructLoadsCalibration :
    let s := bare .idle (.start (1#3 ++ 2#2) ::
      ((List.ofFn fun _ : Fin 11 => Event.reply (.ok 0xFF 0xFE 0)) ++ [.quiet]))
    s.seq = .idle ∧ s.calValid = false := by decide

theorem witness_ConstructFailsAtAnyRead :
    let l : List (Byte × Byte) := [(0x01, 0x98), (0xFF, 0xB8), (0xC7, 0xD1)]
    let s := bare .idle (.start (1#3 ++ 2#2) :: ((l.map fun p => Event.reply (.ok p.1 p.2 0)) ++ Event.reply .fail :: []))
    s.seq = .idle ∧ s.calValid = false ∧ l.length ≤ 10 := by decide

theorem witness_ReadTemperatureAsOneStep :
    let s := block .idle (.start (3#3 ++ 1#2) :: .reply (.ok 0 0 0) ::
      (List.replicate 5 Event.tick ++ .quiet :: .reply (.ok 0x6C 0xFA 0) :: .quiet :: []))
    s.seq = .idle ∧ s.calValid = true := by decide

theorem witness_ReadPressureAsOneStep :
    let s : State := { block .idle (.start (4#3 ++ 1#2) :: .reply (.ok 0 0 0) ::
      (List.replicate 5 Event.tick ++ .quiet :: .reply (.ok 0x6C 0xFA 0) :: .reply (.ok 0 0 0) ::
        (List.replicate 14 Event.tick ++ .quiet :: .reply (.ok 0x5D 0x23 0x00) :: .quiet :: []))) with mode := 2 }
    s.seq = .idle ∧ s.calValid = true ∧ 14 = (if s.mode = 3 then 26 else if s.mode = 2 then 14 else 5) ∧
    95372 = ((0x5D#8).toNat * 65536 + (0x23#8).toNat * 256 + (0x00#8).toNat) / 2 ^ (8 - s.mode.toNat) := by decide

/-- A READ_TEMPERATURE whose write fails, and a READ_PRESSURE whose first read-back fails. -/
theorem witness_TemperatureTransactionFailures :
    let s := block .idle (.start ((if false then 4#3 else 3#3) ++ 1#2) :: .reply .fail :: [])
    let r := block .idle (.start ((if true then 4#3 else 3#3) ++ 1#2) :: .reply (.ok 0 0 0) ::
      (List.replicate 5 Event.tick ++ .quiet :: .reply .fail :: []))
    (s.seq = .idle ∧ s.calValid = true) ∧ (r.seq = .idle ∧ r.calValid = true) := by decide

/-- A READ_PRESSURE in mode 3 whose pressure command fails, and one whose pressure read-back fails. -/
theorem witness_PressureTransactionFailures :
    let s : State := { block .idle (.start (4#3 ++ 1#2) :: .reply (.ok 0 0 0) ::
      (List.replicate 5 Event.tick ++ .quiet :: .reply (.ok 0x6C 0xFA 0) :: .reply .fail :: [])) with mode := 3 }
    let r : State := { block .idle (.start (4#3 ++ 1#2) :: .reply (.ok 0 0 0) ::
      (List.replicate 5 Event.tick ++ .quiet :: .reply (.ok 0x6C 0xFA 0) :: .reply (.ok 0 0 0) ::
        (List.replicate 26 Event.tick ++ .quiet :: .reply .fail :: []))) with mode := 3 }
    (s.seq = .idle ∧ s.calValid = true ∧ 26 = (if s.mode = 3 then 26 else if s.mode = 2 then 14 else 5)) ∧
    (r.seq = .idle ∧ r.calValid = true ∧ 26 = (if r.mode = 3 then 26 else if r.mode = 2 then 14 else 5)) := by decide

end Sys2Proof.Tests
end

/-! The registers (spec/10_state.md): their invariant, and what a step leaves unchanged of them. -/

namespace Sys2Proof.Machine

/-! ### The shape of the invariant: an idle block, a calibration load, a measurement -/

/-- The status flags while an operation runs, as acceptance left them (R210). -/
structure State.Running (s : State) : Prop where
  busy : s.busy = true
  done : s.done = false
  err : s.err = .ok
  tValid : s.tValid = false
  pValid : s.pValid = false

variable {s t : State}

/-- Under the invariant the flags are those of a running operation wherever `SEQ` is not `S_IDLE`. -/
theorem State.Inv.isRunning (hi : s.Inv) (hq : s.seq ≠ .idle) : s.Running :=
  have ⟨hd, he, hT, hP⟩ := hi.running hq
  ⟨hi.busy.2 hq, hd, he, hT, hP⟩

/-- Under the invariant `BUSY` is 0 in `S_IDLE`. -/
theorem State.Inv.busy_eq_false (hi : s.Inv) (hq : s.seq = .idle) : s.busy = false := by
  simpa [hq] using hi.busy

/-- With a calibration held no calibration load runs. -/
theorem State.Inv.seq_ne_calRd (hi : s.Inv) (hv : s.calValid = true) : s.seq ≠ .calRd := fun hq => by
  obtain ⟨hf, -, -⟩ := hi.loading hq
  rw [hv] at hf
  cases hf

/-- In `S_IDLE` the invariant is about the results and the error code alone. -/
theorem State.Inv.of_idle (hq : s.seq = .idle) (hb : s.busy = false)
    (resultT : s.tValid = true → s.done = true ∧ s.err = .ok ∧ s.calValid = true ∧ s.pValid = false)
    (resultP : s.pValid = true → s.done = true ∧ s.err = .ok ∧ s.calValid = true)
    (error : s.err ≠ .ok → s.done = true) : s.Inv where
  busy := by simp [hq, hb]
  running h := absurd hq h
  loading := by simp [hq]
  measuring h := absurd hq h
  pressing := by simp [hq]
  waitT := by simp [hq]
  waitP := by simp [hq]
  waited := by simp [hq]
  sample := by simp [hq]
  resultT := resultT
  resultP := resultP
  error := error

/-- In `S_IDLE` with `DONE` and no result, whatever the error code, the invariant holds. -/
theorem State.Inv.of_noResult (hq : s.seq = .idle) (hb : s.busy = false) (hd : s.done = true)
    (hT : s.tValid = false) (hP : s.pValid = false) : s.Inv :=
  .of_idle hq hb (by simp [hT]) (by simp [hP]) (fun _ => hd)

/-- In `S_CAL_RD` the invariant is about the flags, `CAL_VALID`, `OP` and `CALIDX`. -/
theorem State.Inv.of_loading (hr : s.Running) (hq : s.seq = .calRd)
    (loading : s.calValid = false ∧ s.op = .construct ∧ s.calIdx.toNat ≤ 10) : s.Inv where
  busy := by simp [hq, hr.busy]
  running _ := ⟨hr.done, hr.err, hr.tValid, hr.pValid⟩
  loading _ := loading
  measuring _ h := absurd hq h
  pressing := by simp [hq]
  waitT := by simp [hq]
  waitP := by simp [hq]
  waited := by simp [hq]
  sample := by simp [hq]
  resultT := by simp [hr.tValid]
  resultP := by simp [hr.pValid]
  error := by simp [hr.err]

/-- What the invariant asks of a measurement in progress beside its flags. A field about values of `SEQ` other than the
present one holds by default. -/
structure State.Measuring (s : State) : Prop where
  calValid : s.calValid = true
  op : s.op ≠ .construct
  idle : s.seq ≠ .idle := by nofun
  calRd : s.seq ≠ .calRd := by nofun
  pressing : s.seq = .pCmd ∨ s.seq = .pWait ∨ s.seq = .pRead → s.op = .press := by nofun
  waitT : s.seq = .tWait → s.delay.toNat ≤ 5 := by nofun
  waitP : s.seq = .pWait → s.delay.toNat ≤ (pDelay s.mode).toNat := by nofun
  waited : s.seq = .tRead ∨ s.seq = .pRead → s.delay = 0 := by nofun
  sample : s.seq = .comp → s.op = .press → s.up.toNat < 2 ^ (16 + s.mode.toNat) := by nofun

/-- The invariant of a measurement in progress. -/
theorem State.Inv.of_measuring (hr : s.Running) (hm : s.Measuring) : s.Inv :=
  { hm with
    busy := by simp [hm.idle, hr.busy]
    running := fun _ => ⟨hr.done, hr.err, hr.tValid, hr.pValid⟩
    loading := fun h => absurd h hm.calRd
    measuring := fun _ _ => ⟨hm.calValid, hm.op⟩
    resultT := by simp [hr.tValid]
    resultP := by simp [hr.pValid]
    error := by simp [hr.err] }

/-! ### What the moves do to the fields the invariant bounds -/

/-- The sample of a pressure read has at most 16 bits and one for each step of the exponent (R31, R100). -/
theorem rawPressure_lt (r0 r1 r2 : Byte) (m : BitVec 2) :
    (rawPressure r0 r1 r2 m).toNat < 2 ^ (16 + m.toNat) := by
  have h0 := r0.isLt
  have h1 := r1.isLt
  have h2 := r2.isLt
  have hm : m = 0 ∨ m = 1 ∨ m = 2 ∨ m = 3 := by revert m; decide
  unfold rawPressure
  rw [asr_eq_ediv]
  rcases hm with rfl | rfl | rfl | rfl <;> simp [BitVec.toNat_ofInt] <;> omega

/-- A tick that counts never makes the delay longer (R159). -/
theorem delay_sub_one_le {d : BitVec 5} (hd : d ≠ 0) : (d - 1).toNat ≤ d.toNat := by
  bv_omega

/-- An operation that ends without delivering a result leaves the invariant, whatever the error code. -/
theorem inv_of_ended (hr : s.Running) (hq : t.seq = .idle) (hb : t.busy = false) (hd : t.done = true)
    (hT : t.tValid = s.tValid) (hP : t.pValid = s.pValid) : t.Inv :=
  .of_noResult hq hb hd (hT.trans hr.tValid) (hP.trans hr.pValid)

/-- Every move keeps the invariant of the registers. -/
theorem Move.inv (hm : Move s t) (hi : s.Inv) : t.Inv := by
  have running {q : Seq} (hq : s.seq = q) (hne : q ≠ .idle) : s.Running := hi.isRunning (hq ▸ hne)
  have measuring {q : Seq} (hq : s.seq = q) (h0 : q ≠ .idle) (h1 : q ≠ .calRd) :
      s.calValid = true ∧ s.op ≠ .construct := hi.measuring (hq ▸ h0) (hq ▸ h1)
  cases hm with
  | nothing => exact { hi with }
  | reset => exact .of_idle rfl rfl nofun nofun nofun
  -- commands of the host
  | refused _ _ hq | setMode _ _ _ hq => exact .of_noResult hq (hi.busy_eq_false hq) rfl rfl rfl
  | construct _ _ _ _ _ hv => exact .of_loading ⟨rfl, rfl, rfl, rfl, rfl⟩ rfl ⟨hv, rfl, by simp⟩
  | read _ _ _ ho _ hv =>
    exact .of_measuring ⟨rfl, rfl, rfl, rfl, rfl⟩ { calValid := hv, op := ho }
  -- the calibration load
  | loaded _ _ _ i _ _ hq hlt =>
    obtain ⟨hv, ho, -⟩ := hi.loading hq
    exact .of_loading { running hq nofun with } rfl ⟨hv, ho, by simp; omega⟩
  -- a completion of CONSTRUCT and the aborts
  | loadedLast _ _ _ _ _ hq | loadFailed _ hq | commandTFailed _ hq | commandPFailed _ hq | readTFailed _ hq
  | readPFailed _ hq => exact inv_of_ended (running hq nofun) rfl rfl rfl rfl rfl
  | engineError _ _ hq =>
    exact inv_of_ended (running hq nofun) (by simp) (by simp) (by simp) (by simp) (by simp)
  -- the measurement
  | commandT _ _ _ _ hq =>
    obtain ⟨hv, ho⟩ := measuring hq nofun nofun
    exact .of_measuring { running hq nofun with } { calValid := hv, op := ho, waitT := fun _ => le_rfl }
  | commandP _ _ _ _ hq =>
    obtain ⟨hv, ho⟩ := measuring hq nofun nofun
    have hp := hi.pressing (.inl hq)
    exact .of_measuring { running hq nofun with }
      { calValid := hv, op := ho, pressing := fun _ => hp, waitP := fun _ => le_rfl }
  | readT _ _ _ _ hq =>
    obtain ⟨hv, ho⟩ := measuring hq nofun nofun
    by_cases hT : s.op = .temp
    · have notPress : s.op ≠ .press := by simp [hT]
      rw [if_pos hT]
      exact .of_measuring { running hq nofun with }
        { calValid := hv, op := ho, sample := fun _ h => absurd h notPress }
    · have hp : s.op = .press := by
        cases h : s.op with
        | construct => exact absurd h ho
        | temp => exact absurd h hT
        | press => rfl
      rw [if_neg hT]
      exact .of_measuring { running hq nofun with } { calValid := hv, op := ho, pressing := fun _ => hp }
  | readP r0 r1 r2 _ hq =>
    obtain ⟨hv, ho⟩ := measuring hq nofun nofun
    exact .of_measuring { running hq nofun with }
      { calValid := hv, op := ho, sample := fun _ _ => rawPressure_lt r0 r1 r2 s.mode }
  | ticked _ _ hd =>
    have hle := delay_sub_one_le hd
    exact { hi with
      waitT := fun h => hle.trans (hi.waitT h)
      waitP := fun h => hle.trans (hi.waitP h)
      waited := fun h => absurd (hi.waited h) hd }
  | leaveT _ hq hd =>
    obtain ⟨hv, ho⟩ := measuring hq nofun nofun
    exact .of_measuring { running hq nofun with } { calValid := hv, op := ho, waited := fun _ => hd }
  | leaveP _ hq hd =>
    obtain ⟨hv, ho⟩ := measuring hq nofun nofun
    have hp := hi.pressing (.inr (.inl hq))
    exact .of_measuring { running hq nofun with }
      { calValid := hv, op := ho, pressing := fun _ => hp, waited := fun _ => hd }
  -- the results
  | temperature _ _ hq =>
    obtain ⟨hv, -⟩ := measuring hq nofun nofun
    have hP := (running hq nofun).pValid
    exact .of_idle rfl rfl (fun _ => ⟨rfl, rfl, hv, hP⟩) (fun _ => ⟨rfl, rfl, hv⟩) nofun
  | pressure _ _ hq =>
    obtain ⟨hv, -⟩ := measuring hq nofun nofun
    have hT := (running hq nofun).tValid
    exact .of_idle rfl rfl (by simp [hT]) (fun _ => ⟨rfl, rfl, hv⟩) nofun

/-- Settles O11, by cases on the move the step makes. -/
theorem registerInvariantKept : Obligations.RegisterInvariantKept := fun _ _ hi hst => (step_move hst).inv hi

/-! ### The machine goes on -/

/-- The word of `S_CAL_RD` is a row of the opcode table for every index up to 10 (R28, R76). -/
theorem decode_calWord_ok (i : BitVec 4) (hi : i.toNat ≤ 10) :
    ∃ ins, decodeWord (.bus (readKey 2 (calReg i.toNat))) = .ok ins := by
  rw [decode_calWord]
  generalize i.toNat = n at hi
  interval_cases n <;> exact ⟨_, rfl⟩

/-- Under the invariant every word the block forms is a row of the opcode table. -/
theorem decode_busWord_ok (hi : s.Inv) {w : Word} (hw : s.busWord = some w) : ∃ i, decodeWord w = .ok i := by
  unfold State.busWord at hw
  split at hw <;> cases hw
  · rename_i hq
    obtain ⟨-, -, hc⟩ := hi.loading hq
    exact decode_calWord_ok _ hc
  · exact ⟨.measT, rfl⟩
  · exact ⟨.rdDataT, rfl⟩
  · exact ⟨_, decode_commandP _⟩
  · exact ⟨.rdDataP, rfl⟩

/-- Under the invariant every word taken up decodes. -/
theorem decode_fetch_ok (hi : s.Inv) {w : Word} (hw : s.fetch = some w) : ∃ i, decodeWord w = .ok i := by
  unfold State.fetch at hw
  split at hw
  · cases hw
    exact ⟨_, rfl⟩
  · exact decode_busWord_ok hi hw
  all_goals cases hw

/-- Settles O7: no word is taken up that does not decode, and every instruction has a meaning. -/
theorem stepNeverStopsUnderInv : Obligations.StepNeverStopsUnderInv := by
  intro s hi
  unfold step
  split
  · rename_i w hw
    obtain ⟨i, hd⟩ := decode_fetch_ok hi hw
    rw [hd]
    exact exec_next i s
  · exact ⟨_, rfl⟩

/-! ### What a step leaves unchanged -/

/-- Outside `S_CAL_RD` only a reset touches the calibration and its flag. -/
theorem Move.cal_eq (hm : Move s t) (hr : s.event ≠ .reset) (hq : s.seq ≠ .calRd) :
    t.cal = s.cal ∧ t.calValid = s.calValid := by
  cases hm with
  | reset he => exact absurd he hr
  | loaded _ _ _ _ _ _ h | loadedLast _ _ _ _ _ h | loadFailed _ h => exact absurd h hq
  | engineError => exact ⟨by simp, by simp⟩
  | _ => exact ⟨rfl, rfl⟩

/-- Outside `S_IDLE` and `S_CAL_RD` only a reset touches `MODE`. -/
theorem Move.mode_eq (hm : Move s t) (hr : s.event ≠ .reset) (h0 : s.seq ≠ .idle) (h1 : s.seq ≠ .calRd) :
    t.mode = s.mode := by
  cases hm with
  | reset he => exact absurd he hr
  | construct _ _ _ _ h | setMode _ _ _ h => exact absurd h h0
  | loadFailed _ h => exact absurd h h1
  | engineError => simp
  | _ => rfl

/-- In `S_IDLE` and `S_CAL_RD` only a reset touches `UT`. -/
theorem Move.ut_eq (hm : Move s t) (hr : s.event ≠ .reset) (hq : s.seq = .idle ∨ s.seq = .calRd) : t.ut = s.ut := by
  cases hm with
  | reset he => exact absurd he hr
  | commandPFailed _ h | readT _ _ _ _ h | readPFailed _ h | engineError _ _ h => simp [h] at hq
  | _ => rfl

/-- Only a reset, the pressure read-back, and the abort of an evaluation that is no READ_TEMPERATURE's touch `UP`. -/
theorem Move.up_eq (hm : Move s t) (hr : s.event ≠ .reset) (hp : s.seq ≠ .pRead)
    (hc : s.seq = .comp → s.op = .temp) : t.up = s.up := by
  cases hm with
  | reset he => exact absurd he hr
  | readP _ _ _ _ h => exact absurd h hp
  | engineError _ _ h => simp [hc h]
  | _ => rfl

/-- Settles O15: with a calibration held no calibration load runs, and only a load or a reset writes it. -/
theorem calibrationImmutable : Obligations.CalibrationImmutable := by
  intro s t hi hv hr hst
  obtain ⟨hc, hcv⟩ := (step_move hst).cal_eq hr (hi.seq_ne_calRd hv)
  exact ⟨hc, hcv.trans hv⟩

/-- Settles O16, by cases on the move the step makes. -/
theorem modeConstantDuringMeasurement : Obligations.ModeConstantDuringMeasurement :=
  fun _ _ h0 h1 hr hst => (step_move hst).mode_eq hr h0 h1

/-- Under the invariant a CONSTRUCT in progress stands in `S_CAL_RD`. -/
theorem State.Inv.seq_of_construct (hi : s.Inv) (ho : s.op = .construct) : s.seq = .idle ∨ s.seq = .calRd := by
  by_contra h
  obtain ⟨h0, h1⟩ := not_or.1 h
  obtain ⟨-, hn⟩ := hi.measuring h0 h1
  exact hn ho

/-- Settles O55: the moves that write a sample are in states of its own operation. -/
theorem samplesChangeInTheirOperationOnly : Obligations.SamplesChangeInTheirOperationOnly := by
  intro s t hi hr hst
  have hm := step_move hst
  constructor
  · intro h
    have hq : s.seq = .idle ∨ s.seq = .calRd := h.elim .inl hi.seq_of_construct
    exact ⟨hm.ut_eq hr hq, hm.up_eq hr (fun e => by simp [e] at hq) (fun e => by simp [e] at hq)⟩
  · intro ho
    have hp : s.seq ≠ .pRead := fun h => by
      have := hi.pressing (.inr (.inr h))
      simp [ho] at this
    exact hm.up_eq hr hp (fun _ => ho)

/-! ### Reset -/

/-- Settles O8: the reset state is written out (R39). -/
theorem controlBitsAfterReset : Obligations.ControlBitsAfterReset := ⟨rfl, rfl, rfl, rfl, rfl, rfl, rfl⟩

/-- Settles O10: the state after reset is idle, with no result and no error. -/
theorem registerInvariantAtReset : Obligations.RegisterInvariantAtReset := .of_idle rfl rfl nofun nofun nofun

/-! ### What the host can read -/

/-- The response carries code 0 exactly where `ERR` is `ok` (R102). -/
theorem ErrCode.code_eq_zero_iff (e : ErrCode) : e.code = 0 ↔ e = .ok := by
  cases e <;> decide

/-- Under the invariant an error code stands with no result (R103). -/
theorem State.Inv.no_result_of_err (hi : s.Inv) (he : s.err ≠ .ok) : s.tValid = false ∧ s.pValid = false := by
  constructor <;> rw [Bool.eq_false_iff]
  · intro h
    obtain ⟨-, hok, -, -⟩ := hi.resultT h
    exact he hok
  · intro h
    obtain ⟨-, hok, -⟩ := hi.resultP h
    exact he hok

/-- Settles O19: the response shows the flags, and an error code stands with no flag. -/
theorem responseShowsOnlyValidResults : Obligations.ResponseShowsOnlyValidResults := by
  refine ⟨fun _ => ⟨rfl, rfl⟩, fun s hi he => ?_⟩
  obtain ⟨hT, hP⟩ := hi.no_result_of_err (mt (ErrCode.code_eq_zero_iff s.err).2 he)
  simp [State.response, hT, hP]

/-! ### What the engine reads of the calibration -/

/-- `COMP_T` reads `ac5`, `ac6`, `mc` and `md` of the calibration (R170). -/
theorem compT_congr {c d : Cal} (ut : BitVec 16) (h5 : c.ac5 = d.ac5) (h6 : c.ac6 = d.ac6) (hc : c.mc = d.mc)
    (hd : c.md = d.md) : compT c ut = compT d ut := by
  have htx1 : tx1 c ut = tx1 d ut := by simp only [tx1, h5, h6]
  have hden : den c ut = den d ut := by simp only [den, htx1, hd]
  have htx2 : tx2 c ut = tx2 d ut := by simp only [tx2, hden, hc]
  have hb5 : b5 c ut = b5 d ut := by simp only [b5, htx1, htx2]
  simp only [compT, hden, hb5]

/-- The divisor of the pressure path reads `ac3`, `ac4` and `b1` (R191 to R194). -/
theorem b4_congr {c d : Cal} (b5v : Int) (h3 : c.ac3 = d.ac3) (h4 : c.ac4 = d.ac4) (hb1 : c.b1 = d.b1) :
    b4 c b5v = b4 d b5v := by
  simp only [b4, qx3, qx1, qx2, h3, h4, hb1]

/-- The dividend of the pressure path reads `ac1`, `ac2` and `b2` (R185 to R196). -/
theorem b7_congr {c d : Cal} (g : Config.Engine) (b5v up : Int) (oss : Nat) (h1 : c.ac1 = d.ac1)
    (h2 : c.ac2 = d.ac2) (hb2 : c.b2 = d.b2) : b7 g c b5v up oss = b7 g d b5v up oss := by
  simp only [b7, b3, sa, sSum, px3, px1, px2, h1, h2, hb2]

/-- Settles O48: each named value is read with the coefficients it names. -/
theorem unusedInputsDoNotMatter : Obligations.UnusedInputsDoNotMatter := by
  refine ⟨fun _ _ ut => compT_congr ut, fun g c d b5v up oss h1 h2 h3 h4 hb1 hb2 => ?_⟩
  have hb4 : b4 c b5v = b4 d b5v := b4_congr b5v h3 h4 hb1
  have hp0 : p0 g c b5v up oss = p0 g d b5v up oss := by
    simp only [p0, hb4, b7_congr g b5v up oss h1 h2 hb2]
  simp only [compP, hb4, hp0]

end Sys2Proof.Machine

/-! The bus (spec/20_memory.md): the accesses the block makes, and the delay between a command and its read-back. -/

namespace Sys2Proof.Machine

variable {s t : State} {l : List BusEntry}

/-! ### The accesses the block makes -/

/-- The read of a coefficient (R141) is an access of R65. -/
theorem legal_readCal {i : Nat} (hi : i ≤ 10) (b : Option (List Byte)) :
    (BusEntry.read devAddr (calReg i) 2 b).legal :=
  ⟨rfl, .inl ⟨rfl, i, hi, rfl⟩⟩

/-- A read of two or three bytes at DATA (R153, R156) is an access of R65. -/
theorem legal_readData {n : Nat} (hn : n = 2 ∨ n = 3) (b : Option (List Byte)) :
    (BusEntry.read devAddr dataReg n b).legal :=
  ⟨rfl, .inr ⟨rfl, hn⟩⟩

/-- The write of the temperature command (R151) is an access of R65. -/
theorem legal_writeT (ok : Bool) : (BusEntry.write devAddr controlReg commandT ok).legal :=
  ⟨rfl, rfl, .inl rfl⟩

/-- The pressure commands are the four bytes of R92. -/
theorem commandP_mem (m : BitVec 2) :
    commandP m = 0x34 ∨ commandP m = 0x74 ∨ commandP m = 0xB4 ∨ commandP m = 0xF4 := by
  revert m; decide

/-- The write of a pressure command (R154) is an access of R65. -/
theorem legal_writeP (m : BitVec 2) (ok : Bool) : (BusEntry.write devAddr controlReg (commandP m) ok).legal :=
  ⟨rfl, rfl, .inr (commandP_mem m)⟩

/-- A move adds at most one entry to the transcript, and that one is an access of R65. -/
theorem Move.transcript_eq_or_cons (hm : Move s t) :
    t.transcript = s.transcript ∨ ∃ e : BusEntry, e.legal ∧ t.transcript = e :: s.transcript := by
  cases hm with
  | loaded _ _ _ _ _ _ _ hi => exact .inr ⟨_, legal_readCal hi.le _, rfl⟩
  | loadedLast => exact .inr ⟨_, legal_readCal le_rfl _, rfl⟩
  | loadFailed _ _ hi => exact .inr ⟨_, legal_readCal hi _, rfl⟩
  | commandT | commandTFailed => exact .inr ⟨_, legal_writeT _, rfl⟩
  | commandP | commandPFailed => exact .inr ⟨_, legal_writeP _ _, rfl⟩
  | readT | readTFailed => exact .inr ⟨_, legal_readData (.inl rfl) _, rfl⟩
  | readP | readPFailed => exact .inr ⟨_, legal_readData (.inr rfl) _, rfl⟩
  | ticked => exact .inr ⟨.wait, trivial, rfl⟩
  | engineError => exact .inl (by simp)
  | _ => exact .inl rfl

/-- Settles O13: what a step adds to the transcript is an access of R65. -/
theorem transcriptStaysLegal : Obligations.TranscriptStaysLegal := by
  intro s t hl hst
  obtain h | ⟨e, he, h⟩ := (step_move hst).transcript_eq_or_cons <;> rw [h]
  · exact hl
  · exact List.forall_mem_cons.2 ⟨he, hl⟩

/-! ### The delay of each command -/

/-- The delay loaded for a pressure command is the one its byte asks for (R104). -/
theorem conversionMs_commandP (m : BitVec 2) : conversionMs (commandP m) = (pDelay m).toNat := by
  revert m; decide

/-- No pressure command is the temperature command (R91, R92). -/
theorem commandP_ne_commandT (m : BitVec 2) : commandP m ≠ 0x2E := by
  revert m; decide

/-- A coefficient is not read at DATA (R61). -/
theorem calReg_ne_dataReg {i : Nat} (hi : i ≤ 10) : calReg i ≠ 0xF6 := by
  interval_cases i <;> decide

/-- A coefficient read keeps the delay rule, which is about DATA alone. -/
theorem delayRespected_readCal {i : Nat} (hi : i ≤ 10) (b : Option (List Byte)) (hl : delayRespected l) :
    delayRespected (.read devAddr (calReg i) 2 b :: l) :=
  ⟨fun h => absurd h (calReg_ne_dataReg hi), hl⟩

/-- In `S_T_READ` the temperature read-back keeps the delay rule, whatever its answer. -/
theorem State.DelayInv.delayRespected_readT (hi : s.DelayInv) (hq : s.seq = .tRead) (b : Option (List Byte)) :
    delayRespected (.read devAddr dataReg 2 b :: s.transcript) := by
  obtain ⟨hc, hms⟩ := hi.readT hq
  exact ⟨fun _ => ⟨0x2E, hc, hms, iff_of_true rfl rfl⟩, hi.past⟩

/-- In `S_P_READ` the pressure read-back keeps the delay rule, whatever its answer. -/
theorem State.DelayInv.delayRespected_readP (hi : s.DelayInv) (hq : s.seq = .pRead) (b : Option (List Byte)) :
    delayRespected (.read devAddr dataReg 3 b :: s.transcript) := by
  obtain ⟨hc, hms⟩ := hi.readP hq
  have hlen : 3 = 2 ↔ commandP s.mode = 0x2E := iff_of_false (by decide) (commandP_ne_commandT _)
  exact ⟨fun _ => ⟨commandP s.mode, hc, by rwa [conversionMs_commandP], hlen⟩, hi.past⟩

/-! ### The states that stand between a command and its read-back -/

/-- The states in which a command has been written and its read-back has not come. -/
def Seq.awaitsReadBack : Seq → Bool
  | .tWait | .tRead | .pWait | .pRead => true
  | .idle | .calRd | .tCmd | .pCmd | .comp => false

/-- Outside those states the delay invariant is about the transcript alone. -/
theorem State.DelayInv.of_not_awaiting (hq : s.seq.awaitsReadBack = false) (past : delayRespected s.transcript) :
    s.DelayInv where
  past := past
  waitT h := by simp [h, Seq.awaitsReadBack] at hq
  readT h := by simp [h, Seq.awaitsReadBack] at hq
  waitP h := by simp [h, Seq.awaitsReadBack] at hq
  readP h := by simp [h, Seq.awaitsReadBack] at hq

/-- A tick moves one millisecond from those still to count to those counted (R159). -/
theorem le_add_of_tick {n k : Nat} {d : BitVec 5} (h : n ≤ k + d.toNat) : n ≤ k + 1 + (d - 1).toNat := by
  bv_omega

/-- Every move keeps the delay invariant. -/
theorem Move.delayInv (hm : Move s t) (hi : s.DelayInv) : t.DelayInv := by
  cases hm with
  | nothing => exact { hi with }
  -- moves into a state that awaits no read-back: without a transaction, with a write, with a read
  | reset | construct | read | temperature | pressure => exact .of_not_awaiting rfl hi.past
  | refused _ _ hq | setMode _ _ _ hq => exact .of_not_awaiting (by simp [hq, Seq.awaitsReadBack]) hi.past
  | engineError => exact .of_not_awaiting (by simp [Seq.awaitsReadBack]) (by simpa using hi.past)
  | commandTFailed | commandPFailed => exact .of_not_awaiting rfl hi.past
  | loaded _ _ _ _ _ _ _ hlt => exact .of_not_awaiting rfl (delayRespected_readCal hlt.le _ hi.past)
  | loadedLast => exact .of_not_awaiting rfl (delayRespected_readCal le_rfl _ hi.past)
  | loadFailed _ _ hle => exact .of_not_awaiting rfl (delayRespected_readCal hle _ hi.past)
  | readT _ _ _ _ hq =>
    exact .of_not_awaiting (by dsimp only; split <;> rfl) (hi.delayRespected_readT hq _)
  | readTFailed _ hq => exact .of_not_awaiting rfl (hi.delayRespected_readT hq _)
  | readP _ _ _ _ hq | readPFailed _ hq => exact .of_not_awaiting rfl (hi.delayRespected_readP hq _)
  -- a command written: the whole delay is still to count
  | commandT =>
    exact { past := hi.past, waitT := fun _ => ⟨rfl, Nat.le_add_left _ _⟩,
            readT := nofun, waitP := nofun, readP := nofun }
  | commandP =>
    exact { past := hi.past, waitP := fun _ => ⟨rfl, Nat.le_add_left _ _⟩,
            readT := nofun, waitT := nofun, readP := nofun }
  -- a tick counted
  | ticked _ hq =>
    exact {
      past := hi.past
      waitT := fun h => (hi.waitT h).imp_right le_add_of_tick
      waitP := fun h => (hi.waitP h).imp_right le_add_of_tick
      readT := fun h => by simp [show s.seq = .tRead from h] at hq
      readP := fun h => by simp [show s.seq = .pRead from h] at hq }
  -- a wait over: nothing is left to count
  | leaveT _ hq hd =>
    exact { past := hi.past, readT := fun _ => by simpa [hd] using hi.waitT hq,
            waitT := nofun, waitP := nofun, readP := nofun }
  | leaveP _ hq hd =>
    exact { past := hi.past, readP := fun _ => by simpa [hd] using hi.waitP hq,
            waitT := nofun, waitP := nofun, readT := nofun }

/-- Settles O14, by cases on the move the step makes. -/
theorem delayBeforeReadBackKept : Obligations.DelayBeforeReadBackKept := fun _ _ hi hst => (step_move hst).delayInv hi

end Sys2Proof.Machine

/-! The encodings (spec/30_encoding.md): bytes, words and instructions, and the bytes written to CONTROL. -/

namespace Sys2Proof.Machine

variable {s t : State}

/-! ### From an instruction to its bytes and back -/

/-- The byte of a pressure command, `OSS` above `0x34` (R91, R96), is the concatenation of its two fields. -/
theorem commandP_eq_append (m : BitVec 2) : commandP m = m ++ 0x34#6 := by
  revert m; decide

/-- A host word is the word of its byte, which is below `0x20`. -/
theorem wordOfBytes_host (w : BitVec 5) : wordOfBytes (bytesOfWord (.host w)) = .ok (.host w) := by
  revert w; decide

/-- A byte from `0x20` on is the byte of a word to CONTROL. -/
theorem wordOfBytes_ctrl {b : Byte} (hb : ¬ b < 0x20) : wordOfBytes (bytesOfWord (.ctrl b)) = .ok (.ctrl b) :=
  congrArg Except.ok (if_neg hb)

/-- Every instruction's bytes are read as its word: no other word has the same bytes. -/
theorem wordOfBytes_encodeBytes (i : Instr) : wordOfBytes (encodeBytes i) = .ok (encode i) := by
  cases i with
  | construct | setMode | readTemperature | readPressure | reserved0 | reserved5 | reserved6 | reserved7 =>
    exact wordOfBytes_host _
  | measT => exact wordOfBytes_ctrl (by decide)
  | measP oss =>
    have above (m : BitVec 2) : ¬ m ++ 0x34#6 < (0x20 : Byte) := by revert m; decide
    exact wordOfBytes_ctrl (above _)
  | _ => rfl

/-- The word of a well-formed instruction decodes to it: the family of the 23 constructors, assembled. -/
theorem decodeWord_encode : ∀ i : Instr, Laws.WordRoundTrip.Statement i
  | .construct m => Laws.WordRoundTrip.construct m
  | .setMode m => Laws.WordRoundTrip.setMode m
  | .readTemperature m => Laws.WordRoundTrip.readTemperature m
  | .readPressure m => Laws.WordRoundTrip.readPressure m
  | .reserved0 m => Laws.WordRoundTrip.reserved0 m
  | .reserved5 m => Laws.WordRoundTrip.reserved5 m
  | .reserved6 m => Laws.WordRoundTrip.reserved6 m
  | .reserved7 m => Laws.WordRoundTrip.reserved7 m
  | .measT => Laws.WordRoundTrip.measT
  | .measP oss => Laws.WordRoundTrip.measP oss
  | .rdAc1 => Laws.WordRoundTrip.rdAc1
  | .rdAc2 => Laws.WordRoundTrip.rdAc2
  | .rdAc3 => Laws.WordRoundTrip.rdAc3
  | .rdAc4 => Laws.WordRoundTrip.rdAc4
  | .rdAc5 => Laws.WordRoundTrip.rdAc5
  | .rdAc6 => Laws.WordRoundTrip.rdAc6
  | .rdB1 => Laws.WordRoundTrip.rdB1
  | .rdB2 => Laws.WordRoundTrip.rdB2
  | .rdMb => Laws.WordRoundTrip.rdMb
  | .rdMc => Laws.WordRoundTrip.rdMc
  | .rdMd => Laws.WordRoundTrip.rdMd
  | .rdDataT => Laws.WordRoundTrip.rdDataT
  | .rdDataP => Laws.WordRoundTrip.rdDataP

/-- On bytes the decoder is the decoder of the word they hold. -/
theorem decode_of_word {bytes : List Byte} {w : Word} (h : wordOfBytes bytes = .ok w) :
    decode bytes = decodeWord w := by
  simp only [decode, h]

/-- Settles O1: the bytes hold the instruction's word, and that word decodes to the instruction. -/
theorem decodeOfEncodedBytes : Obligations.DecodeOfEncodedBytes := by
  intro i hi
  calc decode (encodeBytes i)
      _ = decodeWord (encode i) := decode_of_word (wordOfBytes_encodeBytes i)
      _ = .ok i := decodeWord_encode i hi

/-- Settles O3: each word is written out in bits. -/
theorem writtenWordsDecode : Obligations.WrittenWordsDecode := by
  unfold Obligations.WrittenWordsDecode
  decide

/-! ### From a word to its instruction and back -/

/-- A host word is the word of its instruction, whose two bits are in range. -/
theorem encode_decodeHost (w : BitVec 5) :
    (decodeHost w).wellFormed = true ∧ encode (decodeHost w) = .host w := by
  revert w; decide

/-- A byte that matches `0x34` under the mask of R96 is `OSS` above `0x34`. -/
theorem eq_append_of_mask {b : Byte} (h : b &&& 0x3F = 0x34) : b.extractLsb' 6 2 ++ 0x34#6 = b := by
  have low : b.toNat % 64 = 52 := by
    have := congrArg BitVec.toNat h
    rwa [BitVec.toNat_and, show (0x3F : Byte).toNat = 2 ^ 6 - 1 from rfl, Nat.and_two_pow_sub_one_eq_mod] at this
  apply BitVec.eq_of_toNat_eq
  rw [BitVec.toNat_append, Nat.shiftLeft_eq, Nat.mul_comm, ← Nat.two_pow_add_eq_or_of_lt (by decide)]
  simp only [BitVec.extractLsb'_toNat, Nat.shiftRight_eq_div_pow, BitVec.toNat_ofNat]
  omega

/-- A byte that decodes is the command byte of its instruction. -/
theorem encode_of_decodeCtrl {b : Byte} {i : Instr} (h : decodeCtrl b = .ok i) :
    i.wellFormed = true ∧ encode i = .ctrl b := by
  unfold decodeCtrl at h
  split at h
  · next hb => cases h; exact ⟨rfl, congrArg Word.ctrl hb.symm⟩
  · split at h <;> cases h
    next hb =>
      refine ⟨decide_eq_true (b.extractLsb' 6 2).isLt, ?_⟩
      simp only [encode, BitVec.ofNat_toNat, BitVec.setWidth_eq, eq_append_of_mask hb]

/-- One row of the bus decoder: if it names the key of its instruction, the row and those after it decode a key only to an
instruction that encodes to it. -/
theorem encode_of_busRow {key k : BitVec 10} {row i : Instr} {rest : Except DecodeError Instr}
    (hrow : row.wellFormed = true ∧ encode row = .bus k)
    (hrest : rest = .ok i → i.wellFormed = true ∧ encode i = .bus key) :
    (if key = k then .ok row else rest) = .ok i → i.wellFormed = true ∧ encode i = .bus key := by
  intro h
  split at h
  · next hk => cases h; exact hk ▸ hrow
  · exact hrest h

/-- A key that decodes is the key of its instruction: each of the thirteen rows names its own, and what follows them is an
error. -/
theorem encode_of_decodeBus {key : BitVec 10} {i : Instr} :
    decodeBus key = .ok i → i.wellFormed = true ∧ encode i = .bus key := by
  unfold decodeBus
  iterate 13 refine encode_of_busRow ⟨rfl, rfl⟩ ?_
  nofun

/-- Settles O2, by cases on the format of the word. -/
theorem encodeOfDecodedWord : Obligations.EncodeOfDecodedWord := by
  intro w i h
  cases w with
  | host w => cases h; exact encode_decodeHost w
  | ctrl b => exact encode_of_decodeCtrl h
  | bus key => exact encode_of_decodeBus h

/-! ### The command bytes -/

/-- The four pressure commands (R92). -/
theorem commandP_table (m : BitVec 2) :
    (m = 0 ∧ commandP m = 0x34) ∨ (m = 1 ∧ commandP m = 0x74) ∨ (m = 2 ∧ commandP m = 0xB4) ∨
      (m = 3 ∧ commandP m = 0xF4) := by
  revert m; decide

/-- The delays of the four exponents (R104). -/
theorem pDelay_table (m : BitVec 2) :
    pDelay m = if m = 0 then 5 else if m = 1 then 5 else if m = 2 then 14 else 26 := by
  revert m; decide

/-- A move that adds a write to the transcript is the command write of `S_T_CMD` or of `S_P_CMD` (R151, R154). -/
theorem Move.eq_of_write {dev reg val : Byte} {ok : Bool} (hm : Move s t)
    (h : t.transcript = .write dev reg val ok :: s.transcript) :
    reg = controlReg ∧ (s.seq = .tCmd ∧ val = Machine.commandT ∨ s.seq = .pCmd ∧ val = Machine.commandP s.mode) := by
  cases hm with
  | commandT _ _ _ _ hq | commandTFailed _ hq => cases h; exact ⟨rfl, .inl ⟨hq, rfl⟩⟩
  | commandP _ _ _ _ hq | commandPFailed _ hq => cases h; exact ⟨rfl, .inr ⟨hq, rfl⟩⟩
  | loaded | loadedLast | loadFailed | readT | readTFailed | readP | readPFailed | ticked => cases h
  | engineError => simp at h
  | _ => exact absurd h.symm (List.cons_ne_self _ _)

/-- Settles O17: the two command writes are the only ones, and their bytes are those of R92. -/
theorem onlyFiveCommandBytes : Obligations.OnlyFiveCommandBytes := by
  intro s t dev reg val ok hst htr
  obtain ⟨hreg, ⟨hq, rfl⟩ | ⟨hq, rfl⟩⟩ := (step_move hst).eq_of_write htr
  · exact ⟨hreg, .inl ⟨hq, rfl⟩⟩
  · exact ⟨hreg, .inr ⟨hq, commandP_table s.mode⟩⟩

/-- MEAS_P whose write succeeds (R154). -/
theorem exec_measP_ok (oss : Nat) {r0 r1 r2 : Byte} (he : s.event = .reply (.ok r0 r1 r2)) :
    exec (.measP oss) s = .next { s.consume.record (.write devAddr controlReg (commandP (BitVec.ofNat 2 oss)) true) with
      delay := pDelay s.mode, seq := .pWait } :=
  congrArg Host.Outcome.next (busWrite_ok he)

/-- MEAS_P whose write fails (R158). -/
theorem exec_measP_fail (oss : Nat) (he : s.event = .reply .fail) :
    exec (.measP oss) s = .next
      ((s.consume.record (.write devAddr controlReg (commandP (BitVec.ofNat 2 oss)) false)).abortSampled .transportError) :=
  congrArg Host.Outcome.next (busWrite_fail he)

/-- Settles O27: the byte as its two fields, the delay as its table. -/
theorem measPWritesCommand : Obligations.MeasPWritesCommand := by
  constructor
  · intro s oss a b c he
    rw [exec_measP_ok oss he, commandP_eq_append, pDelay_table]
    rfl
  · intro s oss he
    exact ⟨_, exec_measP_fail oss he, rfl, rfl, rfl⟩

end Sys2Proof.Machine


/-! The datapath (spec/40_datapath_primitives.md): its primitives, and the width of every value of the engine. -/

namespace Sys2Proof.Machine

/-! ### The primitives -/

/-- `fdiv` is the only quotient whose remainder is smaller than the divisor and has its sign (R124). -/
theorem fdiv_eq_iff {a b q : Int} (hb : b ≠ 0) :
    fdiv a b = q ↔ (0 < b → 0 ≤ a - q * b ∧ a - q * b < b) ∧ (b < 0 → b < a - q * b ∧ a - q * b ≤ 0) := by
  have division : a - q * b + b * q = a := by ring
  have remainder : fdiv a b = q → a.fmod b = a - q * b := fun h => by
    rw [Int.fmod_def, ← h, Int.mul_comm]
    rfl
  rcases hb.lt_or_gt with h | h
  · have unique := Int.fdiv_fmod_unique' (a := a) (r := a - q * b) (q := q) h
    exact ⟨fun hq => ⟨fun h' => absurd h' h.asymm, fun _ => (unique.1 ⟨hq, remainder hq⟩).2⟩,
      fun hr => (unique.2 ⟨division, hr.2 h⟩).1⟩
  · have unique := Int.fdiv_fmod_unique (a := a) (r := a - q * b) (q := q) h
    exact ⟨fun hq => ⟨fun _ => (unique.1 ⟨hq, remainder hq⟩).2, fun h' => absurd h' h.asymm⟩,
      fun hr => (unique.2 ⟨division, hr.1 h⟩).1⟩

/-- `asr` is the floor of the quotient (R123). -/
theorem asr_floor (v : Int) (n : Nat) : asr v n * 2 ^ n ≤ v ∧ v < (asr v n + 1) * 2 ^ n := by
  rw [asr_eq_ediv]
  exact ⟨Int.ediv_mul_le v (by positivity), Int.lt_ediv_add_one_mul_self v (by positivity)⟩

/-- Settles O44: the remainder law holds of `fdiv` by its characterisation. -/
theorem primitivesAreFloors : Obligations.PrimitivesAreFloors := by
  refine ⟨shl_eq_mul, asr_floor, ?_⟩
  rintro a b r hb rfl
  exact (fdiv_eq_iff hb).1 rfl

/-- The remainder of the truncating divider is smaller than the divisor. -/
theorem natAbs_sub_tdiv_mul_lt (a : Int) {b : Int} (hb : b ≠ 0) : (a - a.tdiv b * b).natAbs < b.natAbs := by
  rw [Int.mul_comm, ← Int.tmod_def, Int.natAbs_tmod]
  exact Nat.mod_lt _ (Int.natAbs_pos.2 hb)

/-- Settles O45: where the remainder has the wrong sign, one step down adds the divisor to it; elsewhere it obeys the law of
R124 already. -/
theorem floorFromTruncatingDivider : Obligations.FloorFromTruncatingDivider := by
  intro a b q r hb hq hr
  have hlt : r.natAbs < b.natAbs := hr ▸ hq ▸ natAbs_sub_tdiv_mul_lt a hb
  rw [fdiv_eq_iff hb]
  split
  · have lowered : a - (q - 1) * b = r + b := by rw [hr]; ring
    rw [lowered]
    omega
  · rw [← hr]
    omega

/-! ### Magnitudes under the primitives -/

/-- A product is bounded by the product of the bounds. -/
theorem natAbs_mul_le {a b : Int} {A B : Nat} (ha : a.natAbs ≤ A) (hb : b.natAbs ≤ B) : (a * b).natAbs ≤ A * B :=
  (Int.natAbs_mul a b).trans_le (Nat.mul_le_mul ha hb)

/-- An arithmetic shift divides a bound, rounded up, by the power of two. -/
theorem natAbs_asr_le {v : Int} {n N : Nat} (h : v.natAbs ≤ N * 2 ^ n) : (asr v n).natAbs ≤ N := by
  have h2 : (0 : Int) < 2 ^ n := by positivity
  have hv : (v.natAbs : Int) ≤ N * 2 ^ n := by exact_mod_cast h
  have upper : v / 2 ^ n ≤ N := Int.ediv_le_of_le_mul h2 (by omega)
  have lower : -(N : Int) ≤ v / 2 ^ n := Int.le_ediv_of_mul_le h2 (by rw [Int.neg_mul]; omega)
  rw [asr_eq_ediv]
  omega

/-- `abs` keeps the magnitude (R125). -/
theorem natAbs_absolute (v : Int) : (absolute v).natAbs = v.natAbs := by
  rw [absolute_eq_natAbs, Int.natAbs_natCast]

/-- Both branches of the divider stage are within twice the dividend (R198). -/
theorem natAbs_dividerStage_le (b7v b4v : Int) : (dividerStage b7v b4v).natAbs ≤ b7v.natAbs * 2 := by
  unfold dividerStage
  split
  · exact (fdiv_natAbs_le _ _).trans (natAbs_mul_le le_rfl le_rfl)
  · exact natAbs_mul_le (fdiv_natAbs_le _ _) le_rfl

/-- The range of a signed coefficient (R97). -/
theorem natAbs_toInt_le (v : BitVec 16) : v.toInt.natAbs ≤ 32768 := by
  have lower := v.le_toInt
  have upper := v.toInt_lt
  omega

/-- The range of an unsigned coefficient (R98). -/
theorem natAbs_toNat_le (v : BitVec 16) : (v.toNat : Int).natAbs ≤ 65535 := by
  have := v.isLt
  omega

/-! ### The temperature path -/

section Temperature

variable (c : Cal) (ut : BitVec 16)

/-- The product of R171. -/
theorem natAbs_tx1Product_le :
    (((ut.toNat : Int) - (c.ac6.toNat : Int)) * (c.ac5.toNat : Int)).natAbs ≤ 65535 * 65535 := by
  have difference : ((ut.toNat : Int) - (c.ac6.toNat : Int)).natAbs ≤ 65535 := by
    have := ut.isLt
    have := c.ac6.isLt
    omega
  exact natAbs_mul_le difference (natAbs_toNat_le _)

/-- The bound of `tx1` (R171). -/
theorem natAbs_tx1_le : (tx1 c ut).natAbs ≤ 131069 :=
  natAbs_asr_le ((natAbs_tx1Product_le c ut).trans (by norm_num))

/-- The bound of `den` (R172). -/
theorem natAbs_den_le : (den c ut).natAbs ≤ 163837 := by
  have := natAbs_tx1_le c ut
  have := natAbs_toInt_le c.md
  unfold den
  omega

/-- The dividend of R173. -/
theorem natAbs_shl_mc_le : (shl c.mc.toInt 11).natAbs ≤ 2 ^ 26 := by
  have := natAbs_toInt_le c.mc
  rw [shl_eq_mul]
  omega

/-- The bound of `tx2`: division, whatever the divisor, does not grow the dividend (R173). -/
theorem natAbs_tx2_le : (tx2 c ut).natAbs ≤ 2 ^ 26 :=
  (fdiv_natAbs_le _ _).trans (natAbs_shl_mc_le c)

/-- The bound of `b5` (R174). -/
theorem natAbs_b5_le : (b5 c ut).natAbs ≤ 67239933 := by
  have := natAbs_tx1_le c ut
  have := natAbs_tx2_le c ut
  unfold b5
  omega

end Temperature

/-! ### The pressure path up to the divisor

From here on `b5v` is any value within the bound of `b5`; the bounds between the rows of the table are rounded up. -/

section Pressure

variable {b5v : Int} (hb5 : b5v.natAbs ≤ 67239933) (c : Cal)

include hb5

/-- The bound of `temperature` (R175). -/
theorem natAbs_temperature_le : (temperature b5v).natAbs ≤ 4202496 := by
  unfold temperature
  rw [asr_eq_ediv]
  omega

/-- The bound of `b6` (R182). -/
theorem natAbs_b6_le : (b6 b5v).natAbs ≤ 67243933 := by
  unfold b6
  omega

/-- The square of R183. -/
theorem natAbs_b6Square_le : (b6 b5v * b6 b5v).natAbs ≤ 67243933 * 67243933 :=
  natAbs_mul_le (natAbs_b6_le hb5) (natAbs_b6_le hb5)

/-- The bound of `b62` (R183). -/
theorem natAbs_b62_le : (b62 b5v).natAbs ≤ 1104 * 10 ^ 9 :=
  natAbs_asr_le ((natAbs_b6Square_le hb5).trans (by norm_num))

/-- The products of R185 and R192. -/
theorem natAbs_mul_b62_le (k : BitVec 16) : (k.toInt * b62 b5v).natAbs ≤ 32768 * (1104 * 10 ^ 9) :=
  natAbs_mul_le (natAbs_toInt_le k) (natAbs_b62_le hb5)

/-- The products of R186 and R191. -/
theorem natAbs_mul_b6_le (k : BitVec 16) : (k.toInt * b6 b5v).natAbs ≤ 32768 * 67243933 :=
  natAbs_mul_le (natAbs_toInt_le k) (natAbs_b6_le hb5)

/-- The bound of `px1` (R185). -/
theorem natAbs_px1_le : (px1 c b5v).natAbs ≤ 17664 * 10 ^ 9 :=
  natAbs_asr_le ((natAbs_mul_b62_le hb5 _).trans (by norm_num))

/-- The bound of `px2` (R186). -/
theorem natAbs_px2_le : (px2 c b5v).natAbs ≤ 1075902928 :=
  natAbs_asr_le ((natAbs_mul_b6_le hb5 _).trans (by norm_num))

/-- The bound of `px3` (R187). -/
theorem natAbs_px3_le : (px3 c b5v).natAbs ≤ 17665 * 10 ^ 9 + 75902928 := by
  have := natAbs_px1_le hb5 c
  have := natAbs_px2_le hb5 c
  unfold px3
  omega

/-- The bound of `sSum` (R188). -/
theorem natAbs_sSum_le : (sSum c b5v).natAbs ≤ 17666 * 10 ^ 9 := by
  have := natAbs_px3_le hb5 c
  have := natAbs_toInt_le c.ac1
  unfold sSum
  omega

/-- The bound of `sa`, whether or not the absolute value is taken (R189). -/
theorem natAbs_sa_le (g : Config.Engine) : (sa g c b5v).natAbs ≤ 17666 * 10 ^ 9 := by
  unfold sa
  split
  · exact (natAbs_absolute _).trans_le (natAbs_sSum_le hb5 c)
  · exact natAbs_sSum_le hb5 c

/-- The left shift of R189. -/
theorem natAbs_shl_sa_le (g : Config.Engine) (oss : Nat) :
    (shl (sa g c b5v) oss).natAbs ≤ 17666 * 10 ^ 9 * 2 ^ oss := by
  rw [shl_eq_mul]
  exact natAbs_mul_le (natAbs_sa_le hb5 c g) (by simp [Int.natAbs_pow])

/-- The bound of `b3` (R189). -/
theorem natAbs_b3_le (g : Config.Engine) (oss : Nat) : (b3 g c b5v oss).natAbs ≤ 4417 * 10 ^ 9 * 2 ^ oss := by
  have := natAbs_shl_sa_le hb5 c g oss
  have := Nat.one_le_two_pow (n := oss)
  exact natAbs_asr_le (by omega)

/-- The bound of `qx1` (R191). -/
theorem natAbs_qx1_le : (qx1 c b5v).natAbs ≤ 268975732 :=
  natAbs_asr_le ((natAbs_mul_b6_le hb5 _).trans (by norm_num))

/-- The bound of `qx2` (R192). -/
theorem natAbs_qx2_le : (qx2 c b5v).natAbs ≤ 552 * 10 ^ 9 :=
  natAbs_asr_le ((natAbs_mul_b62_le hb5 _).trans (by norm_num))

/-- The bound of `qx3` (R193). -/
theorem natAbs_qx3_le : (qx3 c b5v).natAbs ≤ 139 * 10 ^ 9 := by
  have := natAbs_qx1_le hb5 c
  have := natAbs_qx2_le hb5 c
  exact natAbs_asr_le (by omega)

/-- The product of R194. -/
theorem natAbs_b4Product_le : ((c.ac4.toNat : Int) * (qx3 c b5v + 32768)).natAbs ≤ 65535 * (140 * 10 ^ 9) := by
  have := natAbs_qx3_le hb5 c
  exact natAbs_mul_le (natAbs_toNat_le _) (by omega)

/-- The bound of `b4` (R194). -/
theorem natAbs_b4_le : (b4 c b5v).natAbs ≤ 280 * 10 ^ 9 :=
  natAbs_asr_le ((natAbs_b4Product_le hb5 c).trans (by norm_num))

/-- The bound of `b7` (R196): what the exponent adds to the difference it takes from the scale (R195). -/
theorem natAbs_b7_le (g : Config.Engine) {up oss : Nat} (hup : up < 2 ^ (16 + oss)) :
    (b7 g c b5v up oss).natAbs ≤ 4418 * 10 ^ 9 * 50000 := by
  have difference : ((up : Int) - b3 g c b5v oss).natAbs ≤ 4418 * 10 ^ 9 * 2 ^ oss := by
    have := natAbs_b3_le hb5 c g oss
    rw [pow_add] at hup
    omega
  have scale : 2 ^ oss * (kScale oss).natAbs ≤ 50000 := by
    obtain ⟨floor, -⟩ := asr_floor 50000 oss
    have nonneg : 0 ≤ kScale oss := by
      unfold kScale
      rw [asr_eq_ediv]
      positivity
    zify
    rwa [abs_of_nonneg nonneg, Int.mul_comm]
  calc (b7 g c b5v up oss).natAbs
    _ ≤ 4418 * 10 ^ 9 * 2 ^ oss * (kScale oss).natAbs := natAbs_mul_le difference le_rfl
    _ = 4418 * 10 ^ 9 * (2 ^ oss * (kScale oss).natAbs) := Nat.mul_assoc _ _ _
    _ ≤ 4418 * 10 ^ 9 * 50000 := Nat.mul_le_mul_left _ scale

/-- The bound of `p0` (R198). -/
theorem natAbs_p0_le (g : Config.Engine) {up oss : Nat} (hup : up < 2 ^ (16 + oss)) :
    (p0 g c b5v up oss).natAbs ≤ 4418 * 10 ^ 9 * 50000 * 2 :=
  (natAbs_dividerStage_le _ _).trans (Nat.mul_le_mul_right 2 (natAbs_b7_le hb5 c g hup))

end Pressure

/-! ### The pressure path from the range test on -/

section AfterRangeTest

/-- The range test passes exactly where the square fits 64 signed bits (R200). -/
theorem squareOverflows_engine_eq_false {p : Int} :
    squareOverflows engine p = false ↔ (p * p).natAbs < 2 ^ 63 := by
  have square : 0 ≤ p * p := mul_self_nonneg p
  simp only [squareOverflows, engine, decide_eq_false_iff_not]
  omega

variable {p : Int} (hp : (p * p).natAbs < 2 ^ 63)

include hp

/-- A value whose square passes the test of R200 is below `2 ^ 31.5`. -/
theorem natAbs_le_of_square_lt : p.natAbs ≤ 3037000499 := by
  rw [Int.natAbs_mul] at hp
  by_contra h
  have : 3037000500 * 3037000500 ≤ p.natAbs * p.natAbs := Nat.mul_self_le_mul_self (by omega)
  omega

/-- The bound of `rx1` in the default form: the square is not negative, so its floor stays strictly below (R201). -/
theorem natAbs_rx1_le : (rx1 engine p).natAbs ≤ 2 ^ 47 - 1 := by
  have square : 0 ≤ p * p := mul_self_nonneg p
  have full : rx1 engine p = asr (p * p) 16 := rfl
  rw [full, asr_eq_ediv]
  omega

/-- The product of R202. -/
theorem natAbs_rx2Product_le : (rx1 engine p * 3038).natAbs ≤ (2 ^ 47 - 1) * 3038 :=
  natAbs_mul_le (natAbs_rx1_le hp) le_rfl

/-- The bound of `rx2` (R202). -/
theorem natAbs_rx2_le : (rx2 engine p).natAbs ≤ 2 ^ 31 * 3038 :=
  natAbs_asr_le ((natAbs_rx2Product_le hp).trans (by norm_num))

/-- The product of R203. -/
theorem natAbs_rx3Product_le : (-7357 * p).natAbs ≤ 7357 * 3037000499 :=
  natAbs_mul_le le_rfl (natAbs_le_of_square_lt hp)

/-- The bound of `rx3` (R203). -/
theorem natAbs_rx3_le : (rx3 p).natAbs ≤ 340930370 :=
  natAbs_asr_le ((natAbs_rx3Product_le hp).trans (by norm_num))

/-- The sum of R204. -/
theorem natAbs_pressureSum_le : (rx2 engine p + rx3 p + 3791).natAbs ≤ 2 ^ 43 := by
  have := natAbs_rx2_le hp
  have := natAbs_rx3_le hp
  omega

/-- The bound of `pressure` (R204). -/
theorem natAbs_pressure_le : (pressure engine p).natAbs ≤ 2 ^ 39 + 3037000499 := by
  have shifted : (asr (rx2 engine p + rx3 p + 3791) 4).natAbs ≤ 2 ^ 39 :=
    natAbs_asr_le ((natAbs_pressureSum_le hp).trans (by norm_num))
  have := natAbs_le_of_square_lt hp
  unfold pressure
  omega

end AfterRangeTest

/-- Settles O47: row by row, each bound found is within that of the table of R127. -/
theorem engineValuesFitDatapath : Obligations.EngineValuesFitDatapath := by
  intro c ut up oss hoss hup _ _
  have hb5 := natAbs_b5_le c ut
  have exponent : 2 ^ oss ≤ 2 ^ 3 := Nat.pow_le_pow_right (by norm_num) hoss
  have hb7 := natAbs_b7_le hb5 c engine hup
  have hp0 := natAbs_p0_le hb5 c engine hup
  refine ⟨(natAbs_tx1Product_le c ut).trans_lt (by norm_num), natAbs_shl_mc_le c,
    (natAbs_b6Square_le hb5).trans_lt (by norm_num), (natAbs_mul_b62_le hb5 c.b2).trans_lt (by norm_num),
    (natAbs_mul_b62_le hb5 c.b1).trans_lt (by norm_num), (natAbs_mul_b6_le hb5 c.ac2).trans_lt (by norm_num),
    (natAbs_mul_b6_le hb5 c.ac3).trans_lt (by norm_num), ?shifted,
    (natAbs_b4Product_le hb5 c).trans_lt (by norm_num), ?doubled,
    natAbs_tx1_le c ut, natAbs_den_le c ut, natAbs_tx2_le c ut, hb5, natAbs_temperature_le hb5, natAbs_b6_le hb5,
    (natAbs_b62_le hb5).trans_lt (by norm_num), (natAbs_px1_le hb5 c).trans_lt (by norm_num),
    (natAbs_px2_le hb5 c).trans_lt (by norm_num), (natAbs_px3_le hb5 c).trans_lt (by norm_num),
    (natAbs_sSum_le hb5 c).trans_lt (by norm_num), (natAbs_sa_le hb5 c engine).trans_lt (by norm_num), ?b3,
    (natAbs_qx1_le hb5 c).trans_lt (by norm_num), (natAbs_qx2_le hb5 c).trans_lt (by norm_num),
    (natAbs_qx3_le hb5 c).trans_lt (by norm_num), (natAbs_b4_le hb5 c).trans_lt (by norm_num),
    hb7.trans_lt (by norm_num), hp0.trans_lt (by norm_num), (natAbs_mul_le hp0 hp0).trans_lt (by norm_num),
    fun hpass => ?afterRangeTest⟩
  case shifted => exact (natAbs_shl_sa_le hb5 c engine oss).trans_lt (by omega)
  case b3 => exact (natAbs_b3_le hb5 c engine oss).trans_lt (by omega)
  case doubled => exact (natAbs_mul_le hb7 le_rfl).trans_lt (by norm_num)
  case afterRangeTest =>
    have hp := squareOverflows_engine_eq_false.1 hpass
    exact ⟨hp, (natAbs_rx1_le hp).trans_lt (by norm_num), (natAbs_rx2Product_le hp).trans_lt (by norm_num),
      (natAbs_rx2_le hp).trans_lt (by norm_num), (natAbs_rx3Product_le hp).trans_lt (by norm_num),
      (natAbs_rx3_le hp).trans_lt (by norm_num), (natAbs_pressureSum_le hp).trans_lt (by norm_num),
      (natAbs_pressure_le hp).trans_lt (by norm_num)⟩

end Sys2Proof.Machine

/-! The calibration load (spec/41_calibration_load.md): the decodings of a byte pair, the eleven coefficient reads, and
CONSTRUCT as one run. -/

namespace Sys2Proof.Machine

variable {s t : State}

/-! ### The decodings -/

/-- The signed reading of the pair (R97), on the 16 bits that hold it. -/
theorem toInt_append (hi lo : Byte) : (hi ++ lo : BitVec 16).toInt = decodeSigned16 hi lo := by
  rw [BitVec.toInt_eq_toNat_cond, append_toNat]
  unfold decodeSigned16
  split <;> split <;> omega

/-- The 16 bits of the pair as the number it spells. -/
theorem ofNat_pair (hi lo : Byte) : BitVec.ofNat 16 (hi.toNat * 256 + lo.toNat) = hi ++ lo := by
  rw [← append_toNat, BitVec.ofNat_toNat, BitVec.setWidth_eq]

/-- A signed coefficient is stored as its big-endian pair (R141). -/
theorem signedCoefficient_eq_append (hi lo : Byte) : signedCoefficient hi lo = hi ++ lo := by
  rw [signedCoefficient, ← toInt_append, BitVec.ofInt_toInt]

/-- An unsigned coefficient is stored as its big-endian pair (R141). -/
theorem unsignedCoefficient_eq_append (hi lo : Byte) : unsignedCoefficient hi lo = hi ++ lo := ofNat_pair hi lo

/-- Every 16-bit pattern is the concatenation of exactly one byte pair. -/
theorem existsUnique_append (x : BitVec 16) : ∃! p : Byte × Byte, (p.1 ++ p.2 : BitVec 16) = x := by
  refine ⟨(x.extractLsb' 8 8, x.extractLsb' 0 8), BitVec.extractLsb'_append_extractLsb', ?_⟩
  rintro ⟨hi, lo⟩ rfl
  exact Prod.ext BitVec.extractLsb'_append_eq_left.symm BitVec.extractLsb'_append_eq_right.symm

/-- In the signed range, a pair decodes to `v` exactly if its 16 bits are those of `v`. -/
theorem decodeSigned16_eq_iff {v : Int} (hlo : -32768 ≤ v) (hhi : v ≤ 32767) (hi lo : Byte) :
    decodeSigned16 hi lo = v ↔ (hi ++ lo : BitVec 16) = BitVec.ofInt 16 v := by
  have held : (BitVec.ofInt 16 v).toInt = v := BitVec.toInt_ofInt_eq_self (by decide) hlo (by omega)
  rw [← toInt_append, ← BitVec.toInt_inj, held]

/-- In the unsigned range, a pair decodes to `v` exactly if its 16 bits are those of `v`. -/
theorem decodeUnsigned16_eq_iff {v : Nat} (hv : v ≤ 65535) (hi lo : Byte) :
    decodeUnsigned16 hi lo = v ↔ (hi ++ lo : BitVec 16) = BitVec.ofNat 16 v := by
  have held : (BitVec.ofNat 16 v).toNat = v := Nat.mod_eq_of_lt (by omega)
  rw [← BitVec.toNat_inj, held, append_toNat, decodeUnsigned16]

/-- Settles O43: both decodings are readings of the pair's 16 bits, which the pair determines and is determined by. -/
theorem decodingsReadTheBigEndianPair : Obligations.DecodingsReadTheBigEndianPair := by
  refine ⟨fun hi lo => ⟨?_, rfl, signedCoefficient_eq_append hi lo, unsignedCoefficient_eq_append hi lo,
    toInt_append hi lo, append_toNat hi lo⟩, fun v hlo hhi => ?_, fun v hv => ?_⟩
  · rw [ofNat_pair, toInt_append]
  · simp only [decodeSigned16_eq_iff hlo hhi]
    exact existsUnique_append _
  · simp only [decodeUnsigned16_eq_iff hv]
    exact existsUnique_append _

/-! ### The word taken up -/

/-- With a start request the block takes up the host's word (R210). -/
theorem fetch_of_start {w : BitVec 5} (he : s.event = .start w) : s.fetch = some (.host w) := by
  rw [State.fetch, he]

/-- When the transport answers, the block takes up the word of its transaction (R141, R151, R153, R154, R156). -/
theorem fetch_of_reply {r : Reply} (he : s.event = .reply r) : s.fetch = s.busWord := by
  rw [State.fetch, he]

/-- At any other event the block takes up no word. -/
theorem fetch_eq_none (he : s.event = .quiet ∨ s.event = .tick ∨ s.event = .reset) : s.fetch = none := by
  rcases he with he | he | he <;> rw [State.fetch, he]

/-- The word of `S_CAL_RD` (R141). -/
theorem busWord_calRd (hq : s.seq = .calRd) : s.busWord = some (.bus (readKey 2 (calReg s.calIdx.toNat))) := by
  rw [State.busWord, hq]

/-- The key of a coefficient's read (R76). -/
theorem readKey_calReg {i : Nat} (hi : i ≤ 10) : readKey 2 (calReg i) = BitVec.ofNat 10 (0x2AA + 2 * i) := by
  interval_cases i <;> rfl

/-- Settles O5: by the event, and for an answer by the sequencer state. -/
theorem wordTakenUpInEachState : Obligations.WordTakenUpInEachState := by
  refine ⟨fun _ _ he => fetch_of_start he, fun _ he => fetch_eq_none he, fun s r he => ?_⟩
  rw [fetch_of_reply he]
  refine ⟨fun hq => ?tCmd, fun hq => ?pCmd, fun hq => ?tRead, fun hq => ?pRead, fun hq hi => ?calRd, fun hq => ?none⟩
  case calRd => rw [busWord_calRd hq, readKey_calReg hi]
  case pCmd => rw [State.busWord, hq, ← commandP_eq_append]
  case none => rcases hq with hq | hq | hq | hq <;> rw [State.busWord, hq]
  all_goals rw [State.busWord, hq]; rfl

/-! ### One coefficient read -/

/-- The read of coefficient `i` (R141), for `i` up to 10. -/
def rdCoefficient : Nat → Instr
  | 0 => .rdAc1
  | 1 => .rdAc2
  | 2 => .rdAc3
  | 3 => .rdAc4
  | 4 => .rdAc5
  | 5 => .rdAc6
  | 6 => .rdB1
  | 7 => .rdB2
  | 8 => .rdMb
  | 9 => .rdMc
  | _ => .rdMd

/-- The calibration store with a pattern written at index `i` (R21), for `i` up to 10. -/
def Cal.set (i : Nat) (v : BitVec 16) (c : Cal) : Cal :=
  match i with
  | 0 => { c with ac1 := v }
  | 1 => { c with ac2 := v }
  | 2 => { c with ac3 := v }
  | 3 => { c with ac4 := v }
  | 4 => { c with ac5 := v }
  | 5 => { c with ac6 := v }
  | 6 => { c with b1 := v }
  | 7 => { c with b2 := v }
  | 8 => { c with mb := v }
  | 9 => { c with mc := v }
  | _ => { c with md := v }

/-- The step of R141 with the pair of coefficient `i` as what is stored. -/
def State.loadPair (i : Nat) (s : State) : State :=
  s.loadCoefficient i fun r0 r1 c => c.set i (r0 ++ r1)

/-- Signed or unsigned, each of the eleven reads stores its pair at its index. -/
theorem exec_rdCoefficient {i : Nat} (hi : i ≤ 10) (s : State) : exec (rdCoefficient i) s = .next (s.loadPair i) := by
  have signed : signedCoefficient = fun r0 r1 => r0 ++ r1 := funext₂ signedCoefficient_eq_append
  have unsigned : unsignedCoefficient = fun r0 r1 => r0 ++ r1 := funext₂ unsignedCoefficient_eq_append
  interval_cases i <;>
    simp only [rdCoefficient, exec, execRdAc1, execRdAc2, execRdAc3, execRdAc4, execRdAc5, execRdAc6, execRdB1, execRdB2,
      execRdMb, execRdMc, execRdMd, signed, unsigned, State.loadPair, Cal.set]

/-- A read that returns, not the last one: the pair is stored and the index moves on (R141). -/
theorem loadPair_ok {r0 r1 r2 : Byte} (he : s.event = .reply (.ok r0 r1 r2)) {i : Nat} (hi : i < 10) :
    s.loadPair i = { s.consume.record (.read devAddr (calReg i) 2 (some [r0, r1])) with
      cal := s.cal.set i (r0 ++ r1), calIdx := BitVec.ofNat 4 (i + 1), seq := .calRd } := by
  rw [State.loadPair, State.loadCoefficient, busRead_ok he, if_neg hi.ne]
  rfl

/-- The eleventh read returns: the load is complete (R143). -/
theorem loadPair_last {r0 r1 r2 : Byte} (he : s.event = .reply (.ok r0 r1 r2)) :
    s.loadPair 10 = { s.consume.record (.read devAddr (calReg 10) 2 (some [r0, r1])) with
      cal := s.cal.set 10 (r0 ++ r1), calValid := true }.complete := by
  rw [State.loadPair, State.loadCoefficient, busRead_ok he, if_pos rfl]
  rfl

/-- A read that fails aborts the construction (R142). -/
theorem loadPair_fail (he : s.event = .reply .fail) (i : Nat) :
    s.loadPair i = (s.consume.record (.read devAddr (calReg i) 2 none)).abortConstruct := by
  rw [State.loadPair, State.loadCoefficient, busRead_fail he]

/-- Settles O30: each read by its index. -/
theorem coefficientReadsLoad : Obligations.CoefficientReadsLoad := by
  intro s r0 r1 r2 he
  have load (i : Nat) (hi : i < 10) := (exec_rdCoefficient hi.le s).trans (congrArg _ (loadPair_ok he hi))
  have last := (exec_rdCoefficient le_rfl s).trans (congrArg _ (loadPair_last he))
  exact ⟨load 0 (by decide), load 1 (by decide), load 2 (by decide), load 3 (by decide), load 4 (by decide),
    load 5 (by decide), load 6 (by decide), load 7 (by decide), load 8 (by decide), load 9 (by decide), last⟩

/-- Settles O31: a pair of the list is a read and its register, by index; the failure is that of R142. -/
theorem coefficientReadFailureAborts : Obligations.CoefficientReadFailureAborts := by
  intro s i reg he hmem
  obtain ⟨k, hk, h⟩ : ∃ k, k < 11 ∧ (rdCoefficient k, calReg k) = (i, reg) := by
    simpa only [List.mem_map, List.mem_range] using
      (show (i, reg) ∈ (List.range 11).map fun k => (rdCoefficient k, calReg k) from hmem)
  cases h
  exact ⟨_, exec_rdCoefficient (Nat.le_of_lt_succ hk) s, by rw [loadPair_fail he]; rfl⟩

/-- Settles O32: a read is one of the eleven by index, and its answer success, failure, or none yet. -/
theorem coefficientReadFrame : Obligations.CoefficientReadFrame := by
  intro s t i hmem hx
  obtain ⟨k, hk, rfl⟩ : ∃ k, k < 11 ∧ rdCoefficient k = i := by
    simpa only [List.mem_map, List.mem_range] using (show i ∈ (List.range 11).map rdCoefficient from hmem)
  rw [exec_rdCoefficient (Nat.le_of_lt_succ hk)] at hx
  cases hx
  by_cases hr : ∃ r, s.event = .reply r
  · obtain ⟨r, he⟩ := hr
    cases r with
    | fail =>
      rw [loadPair_fail he]
      exact ⟨rfl, rfl, rfl, rfl, rfl, rfl, rfl, rfl, fun _ => rfl, fun h => absurd he h⟩
    | ok r0 r1 r2 =>
      rcases Nat.lt_succ_iff_lt_or_eq.1 hk with hlt | rfl
      · rw [loadPair_ok he hlt]
        exact ⟨rfl, rfl, rfl, rfl, rfl, rfl, rfl, rfl, fun _ => rfl, fun _ => rfl⟩
      · rw [loadPair_last he]
        exact ⟨rfl, rfl, rfl, rfl, rfl, rfl, rfl, rfl, fun h => absurd rfl h, fun _ => rfl⟩
  · rw [State.loadPair, State.loadCoefficient, busRead_wait (not_exists.1 hr)]
    exact ⟨rfl, rfl, rfl, rfl, rfl, rfl, rfl, rfl, fun _ => rfl, fun _ => rfl⟩

/-! ### Runs -/

/-- A run goes on after its first step. -/
theorem run_succ (h : step s = .next t) (n : Nat) :
    Host.Core.run Sys2Proof.core (n + 1) s = Host.Core.run Sys2Proof.core n t := by
  have h' : Sys2Proof.core.step s = .next t := h
  simp only [Host.Core.run, h']

/-- The step at which a word is taken up is the meaning of its instruction. -/
theorem step_of_fetch {w : Word} {i : Instr} (hf : s.fetch = some w) (hd : decodeWord w = .ok i) : step s = exec i s := by
  simp only [step, hf, hd]

/-- CONSTRUCT is accepted where no calibration is held (R211). -/
theorem step_construct {m : BitVec 2} (he : s.event = .start (1#3 ++ m)) (hq : s.seq = .idle) (hv : s.calValid = false) :
    step s = .next { s.consume.clearFlags.busyFlags with mode := m, calIdx := 0, op := .construct, seq := .calRd } := by
  have decoded (m : BitVec 2) : decodeWord (.host (1#3 ++ m)) = .ok (.construct m.toNat) := by revert m; decide
  rw [step_of_fetch (fetch_of_start he) (decoded m)]
  simp [exec, execConstruct, State.accept, hq, hv]

/-- When the transport answers in `S_CAL_RD`, the step is the read of the coefficient `CALIDX` names (R141). -/
theorem step_calRd {r : Reply} {i : Nat} (he : s.event = .reply r) (hq : s.seq = .calRd) (hc : s.calIdx = BitVec.ofNat 4 i)
    (hi : i ≤ 10) : step s = .next (s.loadPair i) := by
  have word : s.fetch = some (.bus (readKey 2 (calReg (BitVec.ofNat 4 i).toNat))) := by
    rw [fetch_of_reply he, busWord_calRd hq, hc]
  have decoded : decodeWord (.bus (readKey 2 (calReg (BitVec.ofNat 4 i).toNat))) = .ok (rdCoefficient i) := by
    interval_cases i <;> rfl
  rw [step_of_fetch word decoded, exec_rdCoefficient hi]

/-- The calibration once the pairs of `l` are stored, the first at index `i`. -/
def Cal.setPairs (i : Nat) (l : List (Byte × Byte)) (c : Cal) : Cal :=
  (l.zipIdx i).foldl (fun c q => c.set q.2 (q.1.1 ++ q.1.2)) c

/-- The transcript of the reads that returned the pairs of `l`, in their order, the first at index `i`. -/
def pairReads (i : Nat) (l : List (Byte × Byte)) : List BusEntry :=
  (l.zipIdx i).map fun q => .read devAddr (calReg q.2) 2 (some [q.1.1, q.1.2])

/-- The block in `S_CAL_RD` once the reads from index `i` on returned the pairs of `l`. -/
def State.afterPairs (i : Nat) (l : List (Byte × Byte)) (s : State) : State :=
  { s with
    script := s.script.drop l.length, now := s.now + l.length, cal := s.cal.setPairs i l,
    calIdx := BitVec.ofNat 4 (i + l.length), seq := .calRd, transcript := (pairReads i l).reverse ++ s.transcript }

/-- The answers of the transport that return the pairs of `l`. -/
def pairAnswers (l : List (Byte × Byte)) : List Event :=
  l.map fun p => .reply (.ok p.1 p.2 0)

/-- One read that returns, then those of `l`. -/
theorem afterPairs_cons {p : Byte × Byte} {i : Nat} (he : s.event = .reply (.ok p.1 p.2 0)) (hi : i < 10)
    (l : List (Byte × Byte)) : (s.loadPair i).afterPairs (i + 1) l = s.afterPairs i (p :: l) := by
  rw [loadPair_ok he hi]
  simp [State.afterPairs, Cal.setPairs, pairReads, Nat.add_assoc, Nat.add_comm]

/-- While reads before the last one return, the block stays in the load, a step for each (R141). -/
theorem run_pairs (n : Nat) (rest : List Event) : ∀ (l : List (Byte × Byte)) (i : Nat) (s : State), i + l.length ≤ 10 →
    s.seq = .calRd → s.calIdx = BitVec.ofNat 4 i → s.script = pairAnswers l ++ rest →
    Host.Core.run Sys2Proof.core (l.length + n) s = Host.Core.run Sys2Proof.core n (s.afterPairs i l)
  | [], i, s, _, hq, hc, _ => by
    have unmoved : s.afterPairs i [] = s := by
      cases s
      cases hq
      cases hc
      rfl
    rw [unmoved, List.length_nil, Nat.zero_add]
  | p :: l, i, s, hl, hq, hc, hs => by
    have hlt : i < 10 := by rw [List.length_cons] at hl; omega
    have he : s.event = .reply (.ok p.1 p.2 0) := event_of_script hs
    have ih := run_pairs n rest l (i + 1) (s.loadPair i) (by rw [List.length_cons] at hl; omega)
      (by rw [loadPair_ok he hlt]) (by rw [loadPair_ok he hlt]) (by rw [loadPair_ok he hlt]; simp [hs, pairAnswers])
    calc Host.Core.run Sys2Proof.core ((p :: l).length + n) s
        _ = Host.Core.run Sys2Proof.core (l.length + n + 1) s := by rw [List.length_cons, Nat.add_right_comm]
        _ = Host.Core.run Sys2Proof.core (l.length + n) (s.loadPair i) := run_succ (step_calRd he hq hc hlt.le) _
        _ = _ := by rw [ih, afterPairs_cons he hlt]

/-- The block once CONSTRUCT `m` is accepted and the first reads returned the pairs of `l`. -/
def State.constructing (m : BitVec 2) (l : List (Byte × Byte)) (s : State) : State :=
  { s.consume.clearFlags.busyFlags with mode := m, calIdx := 0, op := .construct, seq := .calRd }.afterPairs 0 l

/-- CONSTRUCT answered by `l.length + 1` transport answers: the run ends with the read of coefficient `l.length`. -/
theorem run_construct {m : BitVec 2} {l : List (Byte × Byte)} {r : Reply} {rest : List Event} (hq : s.seq = .idle)
    (hv : s.calValid = false) (hl : l.length ≤ 10)
    (hs : s.script = .start (1#3 ++ m) :: (pairAnswers l ++ .reply r :: rest)) :
    (s.constructing m l).script = .reply r :: rest ∧
    Host.Core.run Sys2Proof.core (l.length + 2) s = .next ((s.constructing m l).loadPair l.length) := by
  have next : (s.constructing m l).script = .reply r :: rest := by
    simp [State.constructing, State.afterPairs, hs, pairAnswers]
  refine ⟨next, ?_⟩
  rw [run_succ (step_construct (event_of_script hs) hq hv) (l.length + 1),
    run_pairs 1 (.reply r :: rest) l 0 _ (by omega) rfl rfl (by simp [hs])]
  exact run_succ (step_calRd (event_of_script next) rfl (by simp [State.constructing, State.afterPairs]) hl) 0

/-- Settles O50: the read that fails comes after the `j` reads that returned. -/
theorem constructFailsAtAnyRead : Obligations.ConstructFailsAtAnyRead := by
  intro s m l rest hq hv hl hs
  obtain ⟨next, run⟩ := run_construct hq hv hl hs
  rw [loadPair_fail (event_of_script next)] at run
  exact ⟨_, run, rfl, rfl, rfl, rfl, hv, rfl, rfl, congrArg List.tail next, rfl⟩

/-- Settles O49: the eleventh read comes after ten that returned; writing the eleven pairs at their indices, in order, gives
the calibration field by field. -/
theorem constructLoadsCalibration : Obligations.ConstructLoadsCalibration := by
  intro s m r rest hq hv hs
  have hs' : s.script = .start (1#3 ++ m) ::
      (pairAnswers (List.ofFn fun k : Fin 10 => r k.castSucc) ++ .reply (.ok (r 10).1 (r 10).2 0) :: rest) := by
    rw [hs]
    rfl
  obtain ⟨next, run⟩ := run_construct hq hv (by simp) hs'
  simp only [List.length_ofFn] at run
  rw [loadPair_last (event_of_script next)] at run
  rw [run]
  cases s
  cases hs
  rfl

end Sys2Proof.Machine

/-! The measurement sequencer (spec/42_measurement_sequencer.md): its own moves, its transactions, the transition
table, the evaluation of the engine, and the measurements MEAS_T and MEAS_P as runs. -/

namespace Sys2Proof.Machine

variable {s t : State}

/-! ### One step, by its event -/

/-- A word that no row has stops the machine (log entry 10). -/
theorem step_of_decode_error {w : Word} {e : DecodeError} (hf : s.fetch = some w) (hd : decodeWord w = .error e) :
    step s = .fault .noSuchTransaction := by
  simp only [step, hf, hd]

/-- A step at which no word is taken up is the block's own move (R270). -/
theorem step_of_fetch_none (hf : s.fetch = none) : step s = .next s.internal := by
  simp only [step, hf]

/-- Settles O4: by what is taken up, and by what it decodes to. -/
theorem stepRunsTheDecodedWord : Obligations.StepRunsTheDecodedWord :=
  ⟨fun _ _ _ => step_of_fetch, fun _ _ _ => step_of_decode_error, fun _ => step_of_fetch_none⟩

/-- A quiet step is the spontaneous move (R270 d). -/
theorem step_quiet (he : s.event = .quiet) : step s = .next s.spontaneous := by
  rw [step_of_fetch_none (fetch_eq_none (.inl he)), State.internal, he]

/-- A tick is counted or passes (R159). -/
theorem step_tick (he : s.event = .tick) : step s = .next s.tick := by
  rw [step_of_fetch_none (fetch_eq_none (.inr (.inl he))), State.internal, he]

/-- Reset comes before anything else (R260). -/
theorem step_reset (he : s.event = .reset) : step s = .next s.hardReset := by
  rw [step_of_fetch_none (fetch_eq_none (.inr (.inr he))), State.internal, he]

/-- A start request hands the host's word to its meaning (R210). -/
theorem step_start {w : BitVec 5} (he : s.event = .start w) : step s = exec (decodeHost w) s :=
  step_of_fetch (fetch_of_start he) rfl

/-- A start request while an operation runs is not sampled (R216). -/
theorem step_start_of_running {w : BitVec 5} (he : s.event = .start w) (hq : s.seq ≠ .idle) : step s = .next s.consume := by
  have ignored (allowed : Bool) (start : State → State) :
      (.next (s.accept allowed start) : Host.Outcome State Fault Refusal) = .next s.consume :=
    congrArg _ (if_neg hq)
  rw [step_start he, decodeHost]
  split <;> exact ignored _ _

/-- The transport's answer runs the word of the transaction in progress (R270). -/
theorem step_reply {r : Reply} {w : Word} {i : Instr} (he : s.event = .reply r) (hw : s.busWord = some w)
    (hd : decodeWord w = .ok i) : step s = exec i s :=
  step_of_fetch ((fetch_of_reply he).trans hw) hd

/-- The answer in `S_T_CMD` runs MEAS_T (R151). -/
theorem step_tCmd {r : Reply} (he : s.event = .reply r) (hq : s.seq = .tCmd) : step s = exec .measT s :=
  step_reply he (by rw [State.busWord, hq]) rfl

/-- The answer in `S_T_READ` runs RD_DATA_T (R153). -/
theorem step_tRead {r : Reply} (he : s.event = .reply r) (hq : s.seq = .tRead) : step s = exec .rdDataT s :=
  step_reply he (by rw [State.busWord, hq]) rfl

/-- The answer in `S_P_CMD` runs MEAS_P with the exponent of `MODE` (R154). -/
theorem step_pCmd {r : Reply} (he : s.event = .reply r) (hq : s.seq = .pCmd) : step s = exec (.measP s.mode.toNat) s :=
  step_reply he (by rw [State.busWord, hq]) (decode_commandP s.mode)

/-- The answer in `S_P_READ` runs RD_DATA_P (R156). -/
theorem step_pRead {r : Reply} (he : s.event = .reply r) (hq : s.seq = .pRead) : step s = exec .rdDataP s :=
  step_reply he (by rw [State.busWord, hq]) rfl

/-! ### The block's own moves -/

/-- A tick is counted in a waiting state whose `DELAY` is above 0 (R159). -/
theorem tick_of_waiting (hq : s.seq = .tWait ∨ s.seq = .pWait) (hd : s.delay ≠ 0) :
    s.tick = { s.consume.record .wait with delay := s.delay - 1 } :=
  if_pos ⟨hq, hd⟩

/-- Settles O37: a `DELAY` other than 0 is one above its predecessor. -/
theorem tickCountsDelayDown : Obligations.TickCountsDelayDown := by
  intro s he
  rw [step_tick he]
  have pos_iff : 0 < s.delay.toNat ↔ s.delay ≠ 0 := by bv_omega
  refine ⟨fun ⟨hq, hd⟩ => ⟨s.delay - 1, by bv_omega, ?counted⟩, fun h => ?uncounted⟩
  case counted =>
    rw [tick_of_waiting hq (pos_iff.1 hd)]
    rfl
  case uncounted =>
    rw [pos_iff] at h
    exact congrArg _ (if_neg h)

/-- `S_T_WAIT` is left for its read-back when `DELAY` is 0 (R152). -/
theorem spontaneous_tWait (hq : s.seq = .tWait) (hd : s.delay = 0) : s.spontaneous = { s.consume with seq := .tRead } := by
  rw [State.spontaneous, hq]
  exact if_pos hd

/-- `S_P_WAIT` is left for its read-back when `DELAY` is 0 (R155). -/
theorem spontaneous_pWait (hq : s.seq = .pWait) (hd : s.delay = 0) : s.spontaneous = { s.consume with seq := .pRead } := by
  rw [State.spontaneous, hq]
  exact if_pos hd

/-- In `S_COMP` the spontaneous move is the evaluation of the engine (R157). -/
theorem spontaneous_comp (hq : s.seq = .comp) : s.spontaneous = s.evaluate := by
  rw [State.spontaneous, hq]

/-- Elsewhere, and in a waiting state before `DELAY` is 0, nothing happens by itself (R270). -/
theorem spontaneous_eq_consume (hc : s.seq ≠ .comp) (hw : s.seq = .tWait ∨ s.seq = .pWait → s.delay ≠ 0) :
    s.spontaneous = s.consume := by
  obtain ⟨hq, hd, -⟩ | ⟨hq, hd, -⟩ | ⟨hq, -⟩ | ⟨-, -, h⟩ := spontaneous_cases s
  · exact absurd hd (hw (.inl hq))
  · exact absurd hd (hw (.inr hq))
  · exact absurd hq hc
  · exact h

/-- Settles O38: the two exits at 0, and no move before. -/
theorem waitingStateLeftAtZero : Obligations.WaitingStateLeftAtZero := by
  intro s he
  rw [step_quiet he]
  refine ⟨fun hq hd => ?_, fun hq hd => ?_, fun hq hd => ?_⟩
  · rw [spontaneous_tWait hq hd]
    rfl
  · rw [spontaneous_pWait hq hd]
    rfl
  · rw [spontaneous_eq_consume (by rcases hq with hq | hq <;> simp [hq]) fun _ => hd]
    rfl

/-- Outside a waiting state and `S_COMP` a quiet event or a tick changes nothing (R159, R270). -/
theorem step_eq_consume (he : s.event = .quiet ∨ s.event = .tick)
    (hq : s.seq ≠ .tWait ∧ s.seq ≠ .pWait ∧ s.seq ≠ .comp) : step s = .next s.consume := by
  obtain ⟨hT, hP, hC⟩ := hq
  have notWaiting : ¬ (s.seq = .tWait ∨ s.seq = .pWait) := not_or.2 ⟨hT, hP⟩
  rcases he with he | he
  · rw [step_quiet he, spontaneous_eq_consume hC fun h => absurd h notWaiting]
  · rw [step_tick he]
    exact congrArg _ (if_neg fun h => notWaiting h.1)

/-- Settles O36: a quiet event and a tick find no move to make, and a start request is not sampled. -/
theorem transactionWaitsForTransport : Obligations.TransactionWaitsForTransport := by
  refine ⟨fun s hq he => ?transaction, fun s hq he => step_eq_consume he (by simp [hq])⟩
  case transaction =>
    rcases he with he | he | ⟨w, he⟩
    · exact step_eq_consume (.inl he) (by rcases hq with hq | hq | hq | hq | hq <;> simp [hq])
    · exact step_eq_consume (.inr he) (by rcases hq with hq | hq | hq | hq | hq <;> simp [hq])
    · exact step_start_of_running he (by rcases hq with hq | hq | hq | hq | hq <;> simp [hq])

/-! ### A transaction that fails -/

section Failed

variable (s : State) (entry : BusEntry) (e : ErrCode)

/-- The abort after a failed transaction, with everything it leaves unchanged (R158, R236). -/
theorem abort_failed : (s.consume.record entry).abort e = { s with
    script := s.script.tail, now := s.now + 1, seq := .idle, busy := false, done := true, err := e,
    transcript := entry :: s.transcript } := by
  cases s
  rfl

/-- The same where the temperature sample has been taken: it is lost (R158, R236). -/
theorem abortSampled_failed : (s.consume.record entry).abortSampled e = { s with
    script := s.script.tail, now := s.now + 1, ut := Config.freeUt (s.now + 1), seq := .idle, busy := false, done := true,
    err := e, transcript := entry :: s.transcript } := by
  cases s
  rfl

end Failed

/-! ### The command writes -/

/-- MEAS_T whose write succeeds (R151). -/
theorem exec_measT_ok {r0 r1 r2 : Byte} (he : s.event = .reply (.ok r0 r1 r2)) :
    exec .measT s = .next { s.consume.record (.write devAddr controlReg commandT true) with delay := tDelay, seq := .tWait } :=
  congrArg Host.Outcome.next (busWrite_ok he)

/-- MEAS_T whose write fails (R158). -/
theorem exec_measT_fail (he : s.event = .reply .fail) :
    exec .measT s = .next ((s.consume.record (.write devAddr controlReg commandT false)).abort .transportError) :=
  congrArg Host.Outcome.next (busWrite_fail he)

/-- Settles O26. -/
theorem measTWritesCommand : Obligations.MeasTWritesCommand :=
  ⟨fun _ _ _ _ he => exec_measT_ok he, fun _ he => ⟨_, exec_measT_fail he, rfl, rfl, rfl⟩⟩

/-- Until the transport answers, a command write leaves the block where it is (R270). -/
theorem exec_write_of_no_reply {i : Instr} {oss : Nat} (hi : i = .measT ∨ i = .measP oss) (he : ∀ r, s.event ≠ .reply r) :
    exec i s = .next s.consume := by
  rcases hi with rfl | rfl <;> exact congrArg _ (busWrite_wait he)

/-- What the transport can do at a step: it returns, it fails, or it has not answered. -/
theorem reply_cases (s : State) :
    (∃ r0 r1 r2, s.event = .reply (.ok r0 r1 r2)) ∨ s.event = .reply .fail ∨ ∀ r, s.event ≠ .reply r := by
  cases h : s.event with
  | reply r =>
    cases r with
    | ok r0 r1 r2 => exact .inl ⟨r0, r1, r2, rfl⟩
    | fail => exact .inr (.inl rfl)
  | _ => exact .inr (.inr nofun)

/-- Settles O29: the write succeeds, fails, or has no answer yet. -/
theorem commandWriteFrame : Obligations.CommandWriteFrame := by
  intro s t i oss hi hx
  obtain ⟨r0, r1, r2, he⟩ | he | he := reply_cases s
  · rcases hi with rfl | rfl
    · rw [exec_measT_ok he] at hx
      cases hx
      simp
    · rw [exec_measP_ok oss he] at hx
      cases hx
      simp
  · rcases hi with rfl | rfl
    · rw [exec_measT_fail he] at hx
      cases hx
      simp
    · rw [exec_measP_fail oss he] at hx
      cases hx
      simp [he]
  · rw [exec_write_of_no_reply hi he] at hx
    cases hx
    simp

/-! ### The read-backs -/

/-- The sample of the temperature is the big-endian pair (R99). -/
theorem rawTemperature_eq_append (r0 r1 : Byte) : rawTemperature r0 r1 = r0 ++ r1 := ofNat_pair r0 r1

/-- RD_DATA_T whose read returns (R153). -/
theorem exec_rdDataT_ok {r0 r1 r2 : Byte} (he : s.event = .reply (.ok r0 r1 r2)) :
    exec .rdDataT s = .next { s.consume.record (.read devAddr dataReg 2 (some [r0, r1])) with
      ut := r0 ++ r1, seq := if s.op = .temp then .comp else .pCmd } := by
  rw [← rawTemperature_eq_append]
  exact congrArg Host.Outcome.next (busRead_ok he)

/-- RD_DATA_T whose read fails (R158). -/
theorem exec_rdDataT_fail (he : s.event = .reply .fail) :
    exec .rdDataT s = .next ((s.consume.record (.read devAddr dataReg 2 none)).abort .transportError) :=
  congrArg Host.Outcome.next (busRead_fail he)

/-- Settles O33. -/
theorem temperatureReadBack : Obligations.TemperatureReadBack :=
  ⟨fun _ _ _ _ he => exec_rdDataT_ok he, fun s he => (exec_rdDataT_fail he).trans (congrArg _ (abort_failed s _ _))⟩

/-- RD_DATA_P whose read returns (R156). -/
theorem exec_rdDataP_ok {r0 r1 r2 : Byte} (he : s.event = .reply (.ok r0 r1 r2)) :
    exec .rdDataP s = .next { s.consume.record (.read devAddr dataReg 3 (some [r0, r1, r2])) with
      up := rawPressure r0 r1 r2 s.mode, seq := .comp } :=
  congrArg Host.Outcome.next (busRead_ok he)

/-- RD_DATA_P whose read fails (R158). -/
theorem exec_rdDataP_fail (he : s.event = .reply .fail) :
    exec .rdDataP s = .next ((s.consume.record (.read devAddr dataReg 3 none)).abortSampled .transportError) :=
  congrArg Host.Outcome.next (busRead_fail he)

/-- The sample of a pressure read is the 24-bit number shifted down, with no bit lost in the register (R31, R100). -/
theorem toNat_rawPressure (r0 r1 r2 : Byte) (m : BitVec 2) :
    (rawPressure r0 r1 r2 m).toNat = (r0.toNat * 65536 + r1.toNat * 256 + r2.toNat) / 2 ^ (8 - m.toNat) := by
  have h0 := r0.isLt
  have h1 := r1.isLt
  have h2 := r2.isLt
  have hm : m = 0 ∨ m = 1 ∨ m = 2 ∨ m = 3 := by revert m; decide
  unfold rawPressure
  rw [asr_eq_ediv]
  rcases hm with rfl | rfl | rfl | rfl <;> simp [BitVec.toNat_ofInt] <;> omega

/-- Settles O34: the register holds the shifted sample exactly, within the range of the mode. -/
theorem pressureReadBack : Obligations.PressureReadBack :=
  ⟨fun s r0 r1 r2 he => ⟨rawPressure r0 r1 r2 s.mode, toNat_rawPressure r0 r1 r2 s.mode, rawPressure_lt r0 r1 r2 s.mode,
    exec_rdDataP_ok he⟩, fun s he => ⟨_, exec_rdDataP_fail he, abortSampled_failed s _ _⟩⟩

/-- Settles O28: the four failing transactions, each with its entry in the transcript. -/
theorem measurementFailureAborts : Obligations.MeasurementFailureAborts := by
  rintro s i oss e he (⟨rfl, rfl⟩ | ⟨rfl, rfl⟩ | ⟨rfl, rfl⟩ | ⟨rfl, rfl⟩)
  · exact ⟨_, exec_measT_fail he, fun _ => rfl, abort_failed s _ _⟩
  · rw [← commandP_eq_append]
    exact ⟨_, exec_measP_fail oss he, nofun, abortSampled_failed s _ _⟩
  · exact ⟨_, exec_rdDataT_fail he, fun _ => rfl, abort_failed s _ _⟩
  · exact ⟨_, exec_rdDataP_fail he, nofun, abortSampled_failed s _ _⟩

/-- Until the transport answers, a read-back leaves the block where it is (R270). -/
theorem exec_read_of_no_reply {i : Instr} (hi : i = .rdDataT ∨ i = .rdDataP) (he : ∀ r, s.event ≠ .reply r) :
    exec i s = .next s.consume := by
  rcases hi with rfl | rfl <;> exact congrArg _ (busRead_wait he)

/-- Settles O35: the read returns, fails, or has no answer yet. -/
theorem readBackFrame : Obligations.ReadBackFrame := by
  intro s t i hi hx
  obtain ⟨r0, r1, r2, he⟩ | he | he := reply_cases s
  · rcases hi with rfl | rfl
    · rw [exec_rdDataT_ok he] at hx
      cases hx
      simp [he]
    · rw [exec_rdDataP_ok he] at hx
      cases hx
      simp [he]
  · rcases hi with rfl | rfl
    · rw [exec_rdDataT_fail he] at hx
      cases hx
      simp
    · rw [exec_rdDataP_fail he] at hx
      cases hx
      simp [he]
  · rw [exec_read_of_no_reply hi he] at hx
    cases hx
    simp

/-! ### The transition table -/

/-- The eight command codes (R95, R101). -/
theorem command_cases (c : BitVec 3) : c = 0 ∨ c = 1 ∨ c = 2 ∨ c = 3 ∨ c = 4 ∨ c = 5 ∨ c = 6 ∨ c = 7 := by
  revert c; decide

/-- The acceptance of a command in `S_IDLE` sends `SEQ` where the command starts, and nowhere if it is refused (R210, R215). -/
theorem seq_accept (hq : s.seq = .idle) (allowed : Bool) (start : State → State) :
    (s.accept allowed start).seq = if allowed then (start s.consume.clearFlags).seq else .idle := by
  obtain ⟨-, ha, h⟩ | ⟨-, ha, h⟩ | ⟨hn, -⟩ := accept_cases allowed start s
  · rw [h, ha]
    rfl
  · rw [h, ha]
    exact hq
  · exact absurd hq hn

/-- Where a command of the host sends `SEQ` from `S_IDLE`: CONSTRUCT and the two reads start where they are allowed, every other
command completes or is refused at once (R211 to R215). -/
theorem seq_of_command {w : BitVec 5} (hq : s.seq = .idle) (hx : exec (decodeHost w) s = .next t) :
    t.seq = if w.extractLsb' 2 3 = 1 ∧ s.calValid = false then .calRd
      else if (w.extractLsb' 2 3 = 3 ∨ w.extractLsb' 2 3 = 4) ∧ s.calValid = true then .tCmd
      else .idle := by
  unfold decodeHost at hx
  generalize w.extractLsb' 2 3 = c at hx ⊢
  rcases command_cases c with rfl | rfl | rfl | rfl | rfl | rfl | rfl | rfl <;> cases hx <;> simp [seq_accept hq, hq]

/-- A start request moves `SEQ` as the table says: a command from `S_IDLE`, and no move from any other state (R216). -/
theorem seq_of_start {w : BitVec 5} (he : s.event = .start w) (h : step s = .next t) : t.seq = s.tableNext := by
  by_cases hq : s.seq = .idle
  · rw [step_start he] at h
    rw [seq_of_command hq h, State.tableNext, hq, he]
  · rw [step_start_of_running he hq] at h
    cases h
    cases hs : s.seq with
    | idle => exact absurd hs hq
    | _ => simp [State.tableNext, hs, he]

/-- The tick moves `SEQ` nowhere (R159). -/
theorem seq_tick (s : State) : s.tick.seq = s.seq := by
  obtain ⟨-, -, h⟩ | ⟨-, h⟩ := tick_cases s <;> rw [h] <;> rfl

/-- Every evaluation of the engine ends in `S_IDLE` (R157). -/
theorem seq_evaluate (s : State) : s.evaluate.seq = .idle := by
  obtain ⟨e, h, -⟩ | ⟨-, -, h⟩ | ⟨-, -, p, -, h⟩ := evaluate_cases s <;> rw [h] <;> simp

/-- A spontaneous move goes where the table says (R152, R155, R157). -/
theorem seq_spontaneous (he : s.event = .quiet) : s.spontaneous.seq = s.tableNext := by
  unfold State.spontaneous State.tableNext
  cases hq : s.seq with
  | comp => simp [he, seq_evaluate]
  | tWait | pWait => by_cases hd : s.delay = 0#5 <;> simp [he, hq, hd]
  | _ => simp [he, hq]

/-- An answer in `S_CAL_RD` moves `SEQ` as the table says (R141 to R143); there is a next state for `CALIDX` up to 10 alone. -/
theorem seq_of_load {r : Reply} (he : s.event = .reply r) (hq : s.seq = .calRd) (h : step s = .next t) :
    t.seq = s.tableNext := by
  by_cases hi : s.calIdx.toNat ≤ 10
  · rw [step_calRd he hq (by rw [BitVec.ofNat_toNat, BitVec.setWidth_eq]) hi] at h
    cases h
    cases r with
    | fail => rw [loadPair_fail he]; simp [State.tableNext, hq, he]
    | ok r0 r1 r2 =>
      rcases hi.lt_or_eq with hlt | h10
      · have more : s.calIdx ≠ 10#4 := by bv_omega
        rw [loadPair_ok he hlt]; simp [State.tableNext, hq, he, more]
      · have last : s.calIdx = 10#4 := by bv_omega
        rw [h10, loadPair_last he]; simp [State.tableNext, hq, he, last]
  · have decoded := decode_calWord s.calIdx
    rw [List.getElem?_eq_none (Nat.succ_le_of_lt (Nat.lt_of_not_le hi))] at decoded
    rw [step_of_decode_error ((fetch_of_reply he).trans (busWord_calRd hq)) decoded] at h
    cases h

/-- An answer to a command write or to a read-back moves `SEQ` as the table says (R151, R153, R154, R156, R158). -/
theorem seq_of_reply {r : Reply} (he : s.event = .reply r) (h : step s = .next t) : t.seq = s.tableNext := by
  cases hq : s.seq with
  | calRd => exact seq_of_load he hq h
  | tCmd =>
    rw [step_tCmd he hq] at h
    cases r with
    | ok => cases (exec_measT_ok he).symm.trans h; simp [State.tableNext, hq, he]
    | fail => cases (exec_measT_fail he).symm.trans h; simp [State.tableNext, hq, he]
  | pCmd =>
    rw [step_pCmd he hq] at h
    cases r with
    | ok => cases (exec_measP_ok _ he).symm.trans h; simp [State.tableNext, hq, he]
    | fail => cases (exec_measP_fail _ he).symm.trans h; simp [State.tableNext, hq, he]
  | tRead =>
    rw [step_tRead he hq] at h
    cases r with
    | ok => cases (exec_rdDataT_ok he).symm.trans h; simp [State.tableNext, hq, he]
    | fail => cases (exec_rdDataT_fail he).symm.trans h; simp [State.tableNext, hq, he]
  | pRead =>
    rw [step_pRead he hq] at h
    cases r with
    | ok => cases (exec_rdDataP_ok he).symm.trans h; simp [State.tableNext, hq, he]
    | fail => cases (exec_rdDataP_fail he).symm.trans h; simp [State.tableNext, hq, he]
  | idle | tWait | pWait | comp =>
    have noWord : s.busWord = none := by rw [State.busWord, hq]
    rw [step_of_fetch_none ((fetch_of_reply he).trans noWord), State.internal, he] at h
    cases h
    rw [State.tableNext, hq, he]
    cases r <;> exact hq

/-- Settles O6: by the event the step takes. -/
theorem sequencerFollowsTransitionTable : Obligations.SequencerFollowsTransitionTable := by
  intro s t h
  cases he : s.event with
  | start w => exact seq_of_start he h
  | reply r => exact seq_of_reply he h
  | quiet =>
    rw [step_quiet he] at h
    cases h
    exact seq_spontaneous he
  | tick =>
    rw [step_tick he] at h
    cases h
    rw [seq_tick, State.tableNext, he]
  | reset =>
    rw [step_reset he] at h
    cases h
    rw [State.tableNext, he]
    cases s.seq <;> rfl

/-! ### The evaluation of the engine -/

/-- The temperature path where its divisor is not 0 (R170). -/
theorem compT_eq_ok {c : Cal} {ut : BitVec 16} (hd : den c ut ≠ 0) :
    compT c ut = .ok (b5 c ut, temperature (b5 c ut)) :=
  if_neg hd

/-- The pressure path where its divisor is not 0 and the square of `p0` passes the test of R200 (R180). -/
theorem compP_eq_ok {c : Cal} {b5v up : Int} {oss : Nat} (hb : b4 c b5v ≠ 0)
    (hp : squareOverflows engine (p0 engine c b5v up oss) = false) :
    compP engine c b5v up oss = .ok (pressure engine (p0 engine c b5v up oss)) := by
  rw [compP, if_neg hb, hp]
  rfl

/-- A temperature the engine gives fits `RES_T` (R33). -/
theorem toInt_of_compT {c : Cal} {ut : BitVec 16} {v : Int × Int} (h : compT c ut = .ok v) :
    (BitVec.ofInt 32 v.2).toInt = v.2 := by
  unfold compT at h
  split at h <;> cases h
  have bound := natAbs_temperature_le (natAbs_b5_le c ut)
  exact BitVec.toInt_ofInt_eq_self (by decide) (by omega) (by omega)

/-- A pressure the engine gives fits `RES_P` (R34). -/
theorem toInt_of_compP {c : Cal} {b5v up q : Int} {oss : Nat} (h : compP engine c b5v up oss = .ok q) :
    (BitVec.ofInt 64 q).toInt = q := by
  unfold compP at h
  split at h
  · cases h
  · split at h <;> cases h
    rename_i _ hp
    have bound := natAbs_pressure_le (squareOverflows_engine_eq_false.1 (Bool.eq_false_of_not_eq_true hp))
    exact BitVec.toInt_ofInt_eq_self (by decide) (by omega) (by omega)

/-- The evaluation where the temperature path raises an error (R157, R205). -/
theorem evaluate_compT_error {e : ErrCode} (h : compT s.cal s.ut = .error e) :
    s.evaluate = s.consume.abortEvaluation e := by
  simp only [State.evaluate, h]

/-- The evaluation of a READ_TEMPERATURE (R157). -/
theorem evaluate_temp {v : Int × Int} (h : compT s.cal s.ut = .ok v) (ho : s.op = .temp) :
    s.evaluate = s.consume.deliverT v.2 := by
  simp only [State.evaluate, h, if_pos ho]

/-- The evaluation of a READ_PRESSURE whose pressure path raises an error (R157, R205). -/
theorem evaluate_compP_error {v : Int × Int} {e : ErrCode} (h : compT s.cal s.ut = .ok v) (ho : s.op ≠ .temp)
    (hp : compP engine s.cal v.1 (s.up.toNat : Int) s.mode.toNat = .error e) :
    s.evaluate = s.consume.abortEvaluation e := by
  simp only [State.evaluate, h, if_neg ho, hp]

/-- The evaluation of a READ_PRESSURE (R157). -/
theorem evaluate_press {v : Int × Int} {p : Int} (h : compT s.cal s.ut = .ok v) (ho : s.op ≠ .temp)
    (hp : compP engine s.cal v.1 (s.up.toNat : Int) s.mode.toNat = .ok p) :
    s.evaluate = s.consume.deliverP p := by
  simp only [State.evaluate, h, if_neg ho, hp]

/-- The step in `S_COMP` at a quiet event (R157). -/
theorem step_comp (he : s.event = .quiet) (hq : s.seq = .comp) : step s = .next s.evaluate := by
  rw [step_quiet he, spontaneous_comp hq]

/-! ### The named values in integer divisions: the spec's shift by `n` is the floor by `2 ^ n` (R123) -/

section Values

variable (c : Cal) (ut : BitVec 16) (b5v up : Int) (oss : Nat)

/-- R171. -/
theorem tx1_eq : tx1 c ut = ((ut.toNat : Int) - (c.ac6.toNat : Int)) * (c.ac5.toNat : Int) / 32768 := asr_eq_ediv _ 15

/-- R175. -/
theorem temperature_eq : temperature b5v = (b5v + 8) / 16 := asr_eq_ediv _ 4

/-- R183. -/
theorem b62_eq : b62 b5v = (b5v - 4000) * (b5v - 4000) / 4096 := asr_eq_ediv _ 12

/-- R187. -/
theorem px3_eq : px3 c b5v = c.b2.toInt * b62 b5v / 2048 + c.ac2.toInt * b6 b5v / 2048 := by
  rw [px3, px1, px2, asr_eq_ediv, asr_eq_ediv]
  rfl

/-- R189, with `B3_ABS` true. -/
theorem b3_eq : b3 engine c b5v oss = (((c.ac1.toInt * 4 + px3 c b5v).natAbs : Int) * 2 ^ oss + 2) / 4 := by
  rw [b3, asr_eq_ediv, shl_eq_mul, ← absolute_eq_natAbs]
  rfl

/-- R193. -/
theorem qx3_eq : qx3 c b5v = (c.ac3.toInt * b6 b5v / 8192 + c.b1.toInt * b62 b5v / 65536 + 2) / 4 := by
  rw [qx3, qx1, qx2, asr_eq_ediv, asr_eq_ediv, asr_eq_ediv]
  rfl

/-- R194. -/
theorem b4_eq : b4 c b5v = (c.ac4.toNat : Int) * (qx3 c b5v + 32768) / 32768 := asr_eq_ediv _ 15

/-- R195, R196. -/
theorem b7_eq : b7 engine c b5v up oss = (up - b3 engine c b5v oss) * (50000 / 2 ^ oss) := by
  rw [b7, kScale, asr_eq_ediv]

/-- R198. -/
theorem dividerStage_eq (b7v b4v : Int) :
    dividerStage b7v b4v = if b7v < 0x80000000 then Int.fdiv (b7v * 2) b4v else Int.fdiv b7v b4v * 2 := by
  simp [dividerStage, lt, fdiv]

/-- R201 to R204, with `SQ_FORM` FULL. -/
theorem pressure_eq (p : Int) :
    pressure engine p = p + (p * p / 65536 * 3038 / 65536 + -7357 * p / 65536 + 3791) / 16 := by
  simp only [pressure, rx2, rx1, rx3, engine, asr_eq_ediv]
  norm_num

end Values

/-- Settles O39: the values of the statement are the engine's, and the result fits its register. -/
theorem temperatureDelivered : Obligations.TemperatureDelivered := by
  intro s x1 x2 he hq ho hx1 hd hx2
  rw [← tx1_eq] at hx1
  subst hx1 hx2
  have ok : compT s.cal s.ut = .ok _ := compT_eq_ok hd
  refine ⟨_, (toInt_of_compT ok).trans (temperature_eq _), ?_⟩
  rw [step_comp he hq, evaluate_temp ok ho]
  rfl

/-- Settles O40: value by value, those of the statement are the engine's, down to `p0`, whose square passes the range test. -/
theorem pressureDelivered : Obligations.PressureDelivered := by
  intro s x1 b5v b6v b62v b3v x3 b4v b7v p r1 r2 he hq ho hx1 hd hb5 hb6 hb62 hb3 hx3 hb4 hb hb7 hp hsq hr1 hr2
  rw [← tx1_eq] at hx1
  subst hx1
  obtain rfl : b5v = b5 s.cal s.ut := hb5
  obtain rfl : b6v = b6 (b5 s.cal s.ut) := hb6
  obtain rfl : b62v = b62 (b5 s.cal s.ut) := hb62.trans (b62_eq _).symm
  rw [← px3_eq, ← b3_eq] at hb3
  rw [← qx3_eq] at hx3
  subst hb3 hx3
  rw [← b4_eq] at hb4
  rw [← b7_eq] at hb7
  subst hb4 hb7
  rw [← dividerStage_eq] at hp
  obtain rfl : p = p0 engine s.cal (b5 s.cal s.ut) s.up.toNat s.mode.toNat := hp
  have inRange : squareOverflows engine (p0 engine s.cal (b5 s.cal s.ut) s.up.toNat s.mode.toNat) = false := by
    rw [squareOverflows_engine_eq_false]
    have square := mul_self_nonneg (p0 engine s.cal (b5 s.cal s.ut) s.up.toNat s.mode.toNat)
    omega
  subst hr1 hr2
  have okT : compT s.cal s.ut = .ok _ := compT_eq_ok hd
  have okP : compP engine s.cal (b5 s.cal s.ut) s.up.toNat s.mode.toNat = .ok _ := compP_eq_ok hb inRange
  refine ⟨_, (toInt_of_compP okP).trans (pressure_eq _), ?_⟩
  rw [step_comp he hq, evaluate_press okT (by simp [ho]) okP]
  rfl

/-! ### A measurement as a run -/

/-- The block in `S_T_CMD` once READ_PRESSURE (`press`) or READ_TEMPERATURE is accepted, with the events of `rest` to come. -/
def State.started (press : Bool) (rest : List Event) (s : State) : State :=
  { s with
    script := rest, now := s.now + 1, op := if press then .press else .temp, tValid := false, pValid := false,
    seq := .tCmd, busy := true, done := false, err := .ok }

/-- A read operation is accepted where a calibration is held; its mode bits are ignored (R213, R214). -/
theorem step_read {press : Bool} {m : BitVec 2} {rest : List Event} (hq : s.seq = .idle) (hv : s.calValid = true)
    (hs : s.script = .start ((if press then 4#3 else 3#3) ++ m) :: rest) : step s = .next (s.started press rest) := by
  have decodedT (m : BitVec 2) : decodeHost (3#3 ++ m) = .readTemperature m.toNat := by revert m; decide
  have decodedP (m : BitVec 2) : decodeHost (4#3 ++ m) = .readPressure m.toNat := by revert m; decide
  rw [step_start (event_of_script hs)]
  cases press with
  | false => simp [decodedT, exec, execReadTemperature, State.accept, State.started, hq, hv, hs]
  | true => simp [decodedP, exec, execReadPressure, State.accept, State.started, hq, hv, hs]

/-- The block once `n` ticks are counted and the wait is left for the read-back `q`, with the events of `rest` to come. -/
def State.converted (n : Nat) (q : Seq) (rest : List Event) (s : State) : State :=
  { s with
    script := rest, now := s.now + (n + 1), delay := 0, seq := q, transcript := List.replicate n .wait ++ s.transcript }

/-- A wait as a run: a step for each tick of `DELAY` and one more, at which the waiting state is left (R152, R155, R159). -/
theorem run_wait {q : Seq} {rest : List Event} (k : Nat) : ∀ (n : Nat) (s : State),
    (s.seq = .tWait ∧ q = .tRead ∨ s.seq = .pWait ∧ q = .pRead) → s.delay.toNat = n →
    s.script = List.replicate n .tick ++ .quiet :: rest →
    Host.Core.run Sys2Proof.core (k + (n + 1)) s = Host.Core.run Sys2Proof.core k (s.converted n q rest)
  | 0, s, hq, hd, hs => by
    have zero : s.delay = 0 := BitVec.eq_of_toNat_eq hd
    have left : s.spontaneous = { s.consume with seq := q } := by
      obtain ⟨hq, rfl⟩ | ⟨hq, rfl⟩ := hq
      · exact spontaneous_tWait hq zero
      · exact spontaneous_pWait hq zero
    calc Host.Core.run Sys2Proof.core (k + 1) s
        _ = Host.Core.run Sys2Proof.core k s.spontaneous := run_succ (step_quiet (event_of_script hs)) k
        _ = _ := by rw [left]; simp [State.converted, zero, hs]
  | n + 1, s, hq, hd, hs => by
    have nonzero : s.delay ≠ 0 := fun h => by simp [h] at hd
    have one := tick_of_waiting (hq.imp And.left And.left) nonzero
    have ih := run_wait k n s.tick (q := q) (rest := rest) (by rw [one]; exact hq) (by rw [one]; bv_omega)
      (by rw [one]; simp [hs, List.replicate_succ])
    calc Host.Core.run Sys2Proof.core (k + (n + 1 + 1)) s
        _ = Host.Core.run Sys2Proof.core (k + (n + 1)) s.tick := run_succ (step_tick (event_of_script hs)) _
        _ = Host.Core.run Sys2Proof.core k (s.tick.converted n q rest) := ih
        _ = _ := by
          rw [one]
          simp [State.converted, List.replicate_succ', Nat.add_comm, Nat.add_left_comm]

/-- The block in `S_T_READ`, the temperature command written and the wait over. -/
def State.awaitingT (press : Bool) (rest : List Event) (s : State) : State :=
  { s.started press rest with
    now := s.now + 8, delay := 0, seq := .tRead,
    transcript := List.replicate 5 .wait ++ .write devAddr controlReg commandT true :: s.transcript }

/-- From the command of the host to `S_T_READ`: eight steps (R161). -/
theorem run_awaitingT {press : Bool} {m : BitVec 2} {w0 w1 w2 : Byte} {rest : List Event} (hq : s.seq = .idle)
    (hv : s.calValid = true) (hs : s.script = .start ((if press then 4#3 else 3#3) ++ m) :: .reply (.ok w0 w1 w2) ::
      (List.replicate 5 .tick ++ .quiet :: rest)) (k : Nat) :
    Host.Core.run Sys2Proof.core (k + 8) s = Host.Core.run Sys2Proof.core k (s.awaitingT press rest) := by
  have he : (s.started press (.reply (.ok w0 w1 w2) :: (List.replicate 5 .tick ++ .quiet :: rest))).event =
      .reply (.ok w0 w1 w2) := event_of_script rfl
  calc Host.Core.run Sys2Proof.core (k + 8) s
      _ = Host.Core.run Sys2Proof.core (k + 7) (s.started press _) := run_succ (step_read hq hv hs) _
      _ = Host.Core.run Sys2Proof.core (k + 6) _ := run_succ ((step_tCmd he rfl).trans (exec_measT_ok he)) _
      _ = Host.Core.run Sys2Proof.core k (s.awaitingT press rest) := run_wait k 5 _ (.inl ⟨rfl, rfl⟩) rfl rfl

/-- The block with its temperature sample taken, before the evaluation of a READ_TEMPERATURE or the pressure command of a
READ_PRESSURE (`press`). -/
def State.sampledT (press : Bool) (hi lo : Byte) (rest : List Event) (s : State) : State :=
  { s.awaitingT press rest with
    now := s.now + 9, ut := hi ++ lo, seq := if press then .pCmd else .comp,
    transcript := .read devAddr dataReg 2 (some [hi, lo]) :: (s.awaitingT press rest).transcript }

/-- From the command of the host to the temperature sample: nine steps (R161). -/
theorem run_sampledT {press : Bool} {m : BitVec 2} {w0 w1 w2 hi lo x : Byte} {rest : List Event} (hq : s.seq = .idle)
    (hv : s.calValid = true) (hs : s.script = .start ((if press then 4#3 else 3#3) ++ m) :: .reply (.ok w0 w1 w2) ::
      (List.replicate 5 .tick ++ .quiet :: .reply (.ok hi lo x) :: rest)) (k : Nat) :
    Host.Core.run Sys2Proof.core (k + 9) s = Host.Core.run Sys2Proof.core k (s.sampledT press hi lo rest) := by
  have he : (s.awaitingT press (.reply (.ok hi lo x) :: rest)).event = .reply (.ok hi lo x) := event_of_script rfl
  have sampled : step (s.awaitingT press (.reply (.ok hi lo x) :: rest)) = .next (s.sampledT press hi lo rest) := by
    rw [step_tRead he rfl, exec_rdDataT_ok he]
    cases press <;> rfl
  exact (run_awaitingT hq hv hs (k + 1)).trans (run_succ sampled k)

/-- The delay of the mode as a count of ticks (R104). -/
theorem toNat_pDelay (m : BitVec 2) : (pDelay m).toNat = if m = 3 then 26 else if m = 2 then 14 else 5 := by
  revert m; decide

/-- The block in `S_P_READ` of a READ_PRESSURE, its pressure command written and the wait of `d` ticks over. -/
def State.awaitingP (hi lo : Byte) (d : Nat) (rest : List Event) (s : State) : State :=
  { s.sampledT true hi lo rest with
    now := s.now + 10 + (d + 1), seq := .pRead,
    transcript := List.replicate d .wait ++ .write devAddr controlReg (s.mode ++ 0x34#6) true ::
      (s.sampledT true hi lo rest).transcript }

/-- From the command of the host to `S_P_READ`: eleven steps and one for each millisecond of the mode (R161, R162). -/
theorem run_awaitingP {m : BitVec 2} {w0 w1 w2 hi lo x v0 v1 v2 : Byte} {d : Nat} {rest : List Event} (hq : s.seq = .idle)
    (hv : s.calValid = true) (hd : d = if s.mode = 3 then 26 else if s.mode = 2 then 14 else 5)
    (hs : s.script = .start (4#3 ++ m) :: .reply (.ok w0 w1 w2) ::
      (List.replicate 5 .tick ++ .quiet :: .reply (.ok hi lo x) :: .reply (.ok v0 v1 v2) ::
        (List.replicate d .tick ++ .quiet :: rest))) (k : Nat) :
    Host.Core.run Sys2Proof.core (k + (d + 11)) s = Host.Core.run Sys2Proof.core k (s.awaitingP hi lo d rest) := by
  rw [← toNat_pDelay] at hd
  have he : (s.sampledT true hi lo (.reply (.ok v0 v1 v2) :: (List.replicate d .tick ++ .quiet :: rest))).event =
      .reply (.ok v0 v1 v2) := event_of_script rfl
  have command := (step_pCmd he rfl).trans (exec_measP_ok _ he)
  rw [BitVec.ofNat_toNat, BitVec.setWidth_eq, commandP_eq_append] at command
  calc Host.Core.run Sys2Proof.core (k + (d + 11)) s
      _ = Host.Core.run Sys2Proof.core (k + (d + 1) + 1) (s.sampledT true hi lo _) := run_sampledT (press := true) hq hv hs _
      _ = Host.Core.run Sys2Proof.core (k + (d + 1)) _ := run_succ command _
      _ = Host.Core.run Sys2Proof.core k (s.awaitingP hi lo d rest) := run_wait k d _ (.inr ⟨rfl, rfl⟩) hd.symm rfl

/-- Settles O53: the write fails at the second step, or the read-back at the ninth. -/
theorem temperatureTransactionFailures : Obligations.TemperatureTransactionFailures := by
  intro s press m w0 w1 w2 rest hq hv
  refine ⟨fun hs => ?write, fun hs => ?read⟩
  case write =>
    have he : (s.started press (.reply .fail :: rest)).event = .reply .fail := event_of_script rfl
    have failed := (step_tCmd he rfl).trans (exec_measT_fail he)
    rw [abort_failed] at failed
    exact (run_succ (step_read hq hv hs) 1).trans (run_succ failed 0)
  case read =>
    have he : (s.awaitingT press (.reply .fail :: rest)).event = .reply .fail := event_of_script rfl
    have failed := (step_tRead he rfl).trans (exec_rdDataT_fail he)
    rw [abort_failed] at failed
    exact (run_awaitingT hq hv hs 1).trans (run_succ failed 0)

/-- Settles O54: the pressure write fails at the tenth step, or the read-back after the wait of the mode. -/
theorem pressureTransactionFailures : Obligations.PressureTransactionFailures := by
  intro s m w0 w1 w2 hi lo x v0 v1 v2 d rest hq hv hd
  refine ⟨fun hs => ?write, fun hs => ?read⟩
  case write =>
    have he : (s.sampledT true hi lo (.reply .fail :: rest)).event = .reply .fail := event_of_script rfl
    have failed := (step_pCmd he rfl).trans (exec_measP_fail _ he)
    rw [abortSampled_failed, BitVec.ofNat_toNat, BitVec.setWidth_eq, commandP_eq_append] at failed
    exact ⟨_, (run_sampledT (press := true) hq hv hs 1).trans (run_succ failed 0), rfl⟩
  case read =>
    have he : (s.awaitingP hi lo d (.reply .fail :: rest)).event = .reply .fail := event_of_script rfl
    have failed := (step_pRead he rfl).trans (exec_rdDataP_fail he)
    rw [abortSampled_failed] at failed
    have count : 12 + d = 1 + (d + 11) := by omega
    rw [count]
    refine ⟨_, (run_awaitingP hq hv hd hs 1).trans (run_succ failed 0), ?_⟩
    have elapsed : s.now + 10 + (d + 1) + 1 = s.now + 12 + d := by omega
    rw [← elapsed]
    rfl

/-- Settles O51: the tenth step evaluates the sample taken at the ninth. -/
theorem readTemperatureAsOneStep : Obligations.ReadTemperatureAsOneStep := by
  intro s m w0 w1 w2 hi lo x rest hq hv hs
  have he : (s.sampledT false hi lo (.quiet :: rest)).event = .quiet := event_of_script rfl
  refine ⟨_, (run_sampledT (press := false) hq hv hs 1).trans (run_succ (step_comp he rfl) 0), ?_⟩
  cases h : compT s.cal (hi ++ lo) with
  | error e =>
    rw [evaluate_compT_error (s := s.sampledT false hi lo (.quiet :: rest)) h]
    simp [State.sampledT, State.awaitingT, State.started, hv, devAddr, dataReg, controlReg, commandT]
  | ok v =>
    rw [evaluate_temp (s := s.sampledT false hi lo (.quiet :: rest)) h rfl]
    simp [State.sampledT, State.awaitingT, State.started, hv, devAddr, dataReg, controlReg, commandT,
      toInt_of_compT h]

/-- The block in `S_COMP` of a READ_PRESSURE, both samples taken. -/
def State.sampledP (hi lo a b c : Byte) (d : Nat) (rest : List Event) (s : State) : State :=
  { s.awaitingP hi lo d rest with
    now := s.now + 10 + (d + 1) + 1, up := rawPressure a b c s.mode, seq := .comp,
    transcript := .read devAddr dataReg 3 (some [a, b, c]) :: (s.awaitingP hi lo d rest).transcript }

/-- From the command of the host to the pressure sample: one step after `S_P_READ` (R162). -/
theorem run_sampledP {m : BitVec 2} {w0 w1 w2 hi lo x v0 v1 v2 a b c : Byte} {d : Nat} {rest : List Event}
    (hq : s.seq = .idle) (hv : s.calValid = true) (hd : d = if s.mode = 3 then 26 else if s.mode = 2 then 14 else 5)
    (hs : s.script = .start (4#3 ++ m) :: .reply (.ok w0 w1 w2) ::
      (List.replicate 5 .tick ++ .quiet :: .reply (.ok hi lo x) :: .reply (.ok v0 v1 v2) ::
        (List.replicate d .tick ++ .quiet :: .reply (.ok a b c) :: rest))) (k : Nat) :
    Host.Core.run Sys2Proof.core (k + (d + 12)) s = Host.Core.run Sys2Proof.core k (s.sampledP hi lo a b c d rest) := by
  have he : (s.awaitingP hi lo d (.reply (.ok a b c) :: rest)).event = .reply (.ok a b c) := event_of_script rfl
  have sampled := (step_pRead he rfl).trans (exec_rdDataP_ok he)
  calc Host.Core.run Sys2Proof.core (k + (d + 12)) s
      _ = Host.Core.run Sys2Proof.core (k + 1 + (d + 11)) s := by rw [Nat.add_assoc, Nat.add_comm 1 (d + 11)]
      _ = Host.Core.run Sys2Proof.core (k + 1) (s.awaitingP hi lo d _) := run_awaitingP hq hv hd hs _
      _ = Host.Core.run Sys2Proof.core k (s.sampledP hi lo a b c d rest) := run_succ sampled k

/-- Settles O52: the step after the pressure sample evaluates both samples. -/
theorem readPressureAsOneStep : Obligations.ReadPressureAsOneStep := by
  intro s m w0 w1 w2 hi lo x v0 v1 v2 a b c d up rest hq hv hd hup hs
  rw [← toNat_rawPressure] at hup
  subst hup
  have he : (s.sampledP hi lo a b c d (.quiet :: rest)).event = .quiet := event_of_script rfl
  have count : 13 + d = 1 + (d + 12) := by omega
  rw [count]
  refine ⟨_, (run_sampledP hq hv hd hs 1).trans (run_succ (step_comp he rfl) 0), ?_⟩
  cases hT : compT s.cal (hi ++ lo) with
  | error e =>
    rw [evaluate_compT_error (s := s.sampledP hi lo a b c d (.quiet :: rest)) hT]
    simp [State.sampledP, State.awaitingP, State.sampledT, State.awaitingT, State.started, hv, devAddr, dataReg, controlReg,
      commandT]
  | ok v =>
    cases hP : compP engine s.cal v.1 (rawPressure a b c s.mode).toNat s.mode.toNat with
    | error e =>
      rw [evaluate_compP_error (s := s.sampledP hi lo a b c d (.quiet :: rest)) hT nofun hP]
      simp [State.sampledP, State.awaitingP, State.sampledT, State.awaitingT, State.started, hv, devAddr, dataReg, controlReg,
        commandT, hP]
    | ok q =>
      rw [evaluate_press (s := s.sampledP hi lo a b c d (.quiet :: rest)) hT nofun hP]
      simp [State.sampledP, State.awaitingP, State.sampledT, State.awaitingT, State.started, hv, devAddr, dataReg, controlReg,
        commandT, hP, toInt_of_compP hP]

end Sys2Proof.Machine

/-! The zero divisor (spec/43_compensation_temperature.md): the evaluation it ends, and the state that abort leaves. -/

namespace Sys2Proof.Machine

variable {s : State}

/-- The abort of an evaluation, with everything it leaves unchanged (R236). -/
theorem abortEvaluation_consume (s : State) (e : ErrCode) : s.consume.abortEvaluation e = { s with
    script := s.script.tail, now := s.now + 1, ut := (s.consume.abortEvaluation e).ut,
    up := (s.consume.abortEvaluation e).up, seq := .idle, busy := false, done := true, err := e } := by
  unfold State.abortEvaluation
  split <;> rfl

/-- The temperature path where its divisor is 0 (R172). -/
theorem compT_eq_error {c : Cal} {ut : BitVec 16} (hd : den c ut = 0) : compT c ut = .error .arithmeticError :=
  if_pos hd

/-- The pressure path where its divisor is 0 (R197). -/
theorem compP_eq_error {g : Config.Engine} {c : Cal} {b5v up : Int} {oss : Nat} (hb : b4 c b5v = 0) :
    compP g c b5v up oss = .error .arithmeticError :=
  if_pos hb

/-- A zero divisor, of the temperature path or of the pressure path of a READ_PRESSURE, ends the evaluation (R205, R232). -/
theorem evaluate_zeroDivisor (h : den s.cal s.ut = 0 ∨ (s.op ≠ .temp ∧ b4 s.cal (b5 s.cal s.ut) = 0)) :
    s.evaluate = s.consume.abortEvaluation .arithmeticError := by
  by_cases hd : den s.cal s.ut = 0
  · exact evaluate_compT_error (compT_eq_error hd)
  · obtain ⟨ho, hb⟩ := h.resolve_left hd
    exact evaluate_compP_error (compT_eq_ok hd) ho (compP_eq_error hb)

/-- Settles O41: the evaluation aborts, and the abort of a READ_TEMPERATURE loses one sample only. -/
theorem zeroDivisorAborts : Obligations.ZeroDivisorAborts := by
  intro s he hq h
  have aborted : step s = .next (s.consume.abortEvaluation .arithmeticError) := by
    rw [step_comp he hq, evaluate_zeroDivisor h]
  exact ⟨_, aborted, fun ho => by simp [ho], abortEvaluation_consume s _⟩

end Sys2Proof.Machine

/-! The pressure path (spec/44_compensation_pressure.md): the range test on `p0`, and the boundary the divider stage tests. -/

namespace Sys2Proof.Machine

/-! ### The range test -/

/-- A value of at least `2 ^ 31.5` fails the range test (R200). -/
theorem squareOverflows_engine_of_le_natAbs {p : Int} (hp : 3037000500 ≤ p.natAbs) : squareOverflows engine p = true := by
  refine Bool.eq_true_of_not_eq_false fun passes => ?_
  have bound := natAbs_le_of_square_lt (squareOverflows_engine_eq_false.1 passes)
  omega

/-- The pressure path where its divisor is not 0 and the square of `p0` fails the range test (R200, R205). -/
theorem compP_eq_rangeFault {g : Config.Engine} {c : Cal} {b5v up : Int} {oss : Nat} (hb : b4 c b5v ≠ 0)
    (hp : squareOverflows g (p0 g c b5v up oss) = true) : compP g c b5v up oss = .error .rangeFault := by
  rw [compP, if_neg hb, if_pos hp]

/-- Settles O42: both divisor tests pass and the range test fails, so the evaluation aborts. -/
theorem wideSquareAborts : Obligations.WideSquareAborts := by
  rintro s p he hq ho hd hb rfl hp
  have fault : compP engine s.cal (b5 s.cal s.ut) s.up.toNat s.mode.toNat = .error .rangeFault :=
    compP_eq_rangeFault hb (squareOverflows_engine_of_le_natAbs hp)
  have aborted : step s = .next (s.consume.abortEvaluation .rangeFault) := by
    rw [step_comp he hq, evaluate_compP_error (compT_eq_ok hd) ho fault]
  exact ⟨_, aborted, abortEvaluation_consume s _⟩

/-! ### The boundary of the divider stage -/

/-- The scale is 3125 times a power of 2, since `50000 = 3125 * 2 ^ 4` (R195). -/
theorem kScale_eq_mul {oss : Nat} (h : oss ≤ 3) : kScale oss = 3125 * 2 ^ (4 - oss) := by
  interval_cases oss <;> decide

/-- `b7` is a multiple of 3125, as its factor `k` is (R196). -/
theorem dvd_b7 (g : Config.Engine) (c : Cal) (b5v up : Int) {oss : Nat} (h : oss ≤ 3) : 3125 ∣ b7 g c b5v up oss := by
  have scale : 3125 ∣ kScale oss := ⟨_, kScale_eq_mul h⟩
  exact scale.mul_left _

/-- Settles O46: 3125 divides `b7` and does not divide `2 ^ 31`. -/
theorem thresholdNeverReached : Obligations.ThresholdNeverReached := by
  intro g c b5v up oss h
  have multiple := dvd_b7 g c b5v up h
  refine ⟨?_, multiple, fun reached => ?_⟩
  · rw [b7, kScale, asr_eq_ediv]
  · rw [reached] at multiple
    exact absurd multiple (by decide)

end Sys2Proof.Machine

/-! The host operations (spec/45_host_operations.md): how a running operation ends, and the acceptance of a command. -/

namespace Sys2Proof.Machine

variable {s t : State}

/-! ### The end of an operation -/

/-- A move other than reset that brings a running block to `S_IDLE` is a completion or an abort: `DONE` is set, and the code
is never that of a refused command (R235, R236). -/
theorem Move.done_of_idle (hm : Move s t) (hr : s.event ≠ .reset) (hq : s.seq ≠ .idle) (ht : t.seq = .idle) :
    t.done = true ∧ t.err ≠ .illegalCommand := by
  cases hm with
  | reset he => exact absurd he hr
  -- `SEQ` is not touched
  | nothing | ticked => exact absurd ht hq
  -- commands are accepted in `S_IDLE` only
  | refused _ _ h | construct _ _ _ _ h | setMode _ _ _ h | read _ _ _ _ h => exact absurd h hq
  -- the operation goes on
  | loaded | commandT | commandP | readP | leaveT | leaveP => cases ht
  | readT =>
    have goesOn : (if s.op = .temp then Seq.comp else Seq.pCmd) = .idle := ht
    split at goesOn <;> cases goesOn
  -- completions
  | loadedLast | temperature | pressure => exact ⟨rfl, nofun⟩
  -- aborts
  | loadFailed | commandTFailed | commandPFailed | readTFailed | readPFailed => exact ⟨rfl, nofun⟩
  | engineError e _ _ he => rcases he with rfl | rfl <;> simp

/-- Settles O18: under the invariant, which the step keeps, `BUSY` tells whether `SEQ` is `S_IDLE`, and an error code stands
with no result. -/
theorem runningOperationEnds : Obligations.RunningOperationEnds := by
  intro s t hi hb hr hst hbt
  have hit : t.Inv := registerInvariantKept s t hi hst
  have ended : t.seq = .idle := by
    by_contra h
    exact absurd (hit.busy.2 h) (by simp [hbt])
  obtain ⟨hd, he⟩ := (step_move hst).done_of_idle hr (hi.busy.1 hb) ended
  exact ⟨ended, hd, he, hit.no_result_of_err⟩

/-! ### A start request while an operation runs -/

/-- Settles O24: `BUSY` is 1 outside `S_IDLE` alone, where a start request is not sampled. -/
theorem commandWhileBusyIgnored : Obligations.CommandWhileBusyIgnored :=
  fun _ _ hi hb he => step_start_of_running he (hi.busy.1 hb)

/-! ### Acceptance -/

section Acceptance

variable {allowed : Bool} {start : State → State}

/-- An allowed command starts on the state with the flags cleared (R210). -/
theorem accept_allowed (hq : s.seq = .idle) (ha : allowed = true) :
    s.accept allowed start = start s.consume.clearFlags := by
  rw [State.accept, if_pos hq, if_pos ha]

/-- A command that is not allowed is refused (R215). -/
theorem accept_refused (hq : s.seq = .idle) (ha : allowed = false) :
    s.accept allowed start = s.consume.clearFlags.refuse := by
  rw [State.accept, if_pos hq, if_neg (by simp [ha])]

/-- A part of the state that neither the flags, the event nor the start of the command touches is kept, whatever the command
is answered. -/
theorem accept_keeps {α : Type} (part : State → α) (ignored : part s.consume = part s)
    (refused : part s.consume.clearFlags.refuse = part s) (started : part (start s.consume.clearFlags) = part s) :
    part (s.accept allowed start) = part s := by
  obtain ⟨-, -, h⟩ | ⟨-, -, h⟩ | ⟨-, h⟩ := accept_cases allowed start s
  · exact (congrArg part h).trans started
  · exact (congrArg part h).trans refused
  · exact (congrArg part h).trans ignored

end Acceptance

/-- What no host word touches: the calibration, the delay, the samples, the result registers and the bus. -/
def State.beyondHost (s : State) :
    Cal × Bool × BitVec 5 × BitVec 16 × BitVec 19 × BitVec 32 × BitVec 64 × List BusEntry :=
  (s.cal, s.calValid, s.delay, s.ut, s.up, s.resT, s.resP, s.transcript)

/-- Settles O25: each clause is a part of the state that the words it speaks of keep. -/
theorem hostCommandFrame : Obligations.HostCommandFrame := by
  intro m s t i hx hi
  have beyond : t.beyondHost = s.beyondHost := by
    rcases hi with rfl | rfl | rfl | rfl | rfl | rfl | rfl | rfl <;> cases hx <;>
      exact accept_keeps State.beyondHost rfl rfl rfl
  have mode (hC : i ≠ .construct m) (hS : i ≠ .setMode m) : t.mode = s.mode := by
    rcases (hi.resolve_left hC).resolve_left hS with rfl | rfl | rfl | rfl | rfl | rfl <;> cases hx <;>
      exact accept_keeps State.mode rfl rfl rfl
  have calIdx (hC : i ≠ .construct m) : t.calIdx = s.calIdx := by
    rcases hi.resolve_left hC with rfl | rfl | rfl | rfl | rfl | rfl | rfl <;> cases hx <;>
      exact accept_keeps State.calIdx rfl rfl rfl
  have sequencer (hC : i ≠ .construct m) (hT : i ≠ .readTemperature m) (hP : i ≠ .readPressure m) :
      (t.seq, t.op, t.busy) = (s.seq, s.op, s.busy) := by
    simp only [hC, hT, hP, false_or] at hi
    rcases hi with rfl | rfl | rfl | rfl | rfl <;> cases hx <;>
      exact accept_keeps (fun u => (u.seq, u.op, u.busy)) rfl rfl rfl
  simp only [State.beyondHost, Prod.mk.injEq] at beyond sequencer
  obtain ⟨hcal, hvalid, hdelay, hut, hup, hresT, hresP, hbus⟩ := beyond
  exact ⟨hcal, hvalid, hdelay, hut, hup, hresT, hresP, hbus, mode, calIdx, sequencer⟩

/-! ### What each command answers -/

/-- Settles O20: CONSTRUCT is allowed while no calibration is held. -/
theorem constructStarts : Obligations.ConstructStarts :=
  fun _ _ hq hv => congrArg Host.Outcome.next (accept_allowed hq (by rw [hv]; rfl))

/-- Settles O21: SET_MODE is allowed where a calibration is held, and refused where none is. -/
theorem setModeCompletesAtOnce : Obligations.SetModeCompletesAtOnce :=
  ⟨by decide, fun _ _ hq hv => congrArg Host.Outcome.next (accept_allowed hq hv),
    fun _ _ hq hv => congrArg Host.Outcome.next (accept_refused hq hv)⟩

/-- Settles O22: both readings are allowed where a calibration is held. -/
theorem readOperationsStart : Obligations.ReadOperationsStart :=
  fun _ _ hq hv => ⟨congrArg Host.Outcome.next (accept_allowed hq hv), congrArg Host.Outcome.next (accept_allowed hq hv)⟩

/-- Settles O23: a reserved code is never allowed, and the precondition of the other commands fails. -/
theorem illegalCommandsRefused : Obligations.IllegalCommandsRefused := by
  rintro mode s i hq (hres | ⟨hcal, hv⟩ | ⟨rfl, hv⟩)
  · rcases hres with rfl | rfl | rfl | rfl <;> exact congrArg Host.Outcome.next (accept_refused hq rfl)
  · rcases hcal with rfl | rfl | rfl <;> exact congrArg Host.Outcome.next (accept_refused hq hv)
  · exact congrArg Host.Outcome.next (accept_refused hq (by rw [hv]; rfl))

end Sys2Proof.Machine

/-! Reset (spec/70_reset_and_hazards.md): the reset event, and the bus invariants at the reset state. -/

namespace Sys2Proof.Machine

/-- Settles O9: reset comes before anything else, and makes no transaction (R260). -/
theorem resetEventClearsControlBits : Obligations.ResetEventClearsControlBits := by
  intro s he
  obtain ⟨hseq, hbusy, hdone, herr, hcal, hT, hP, htr, -, -⟩ := hardReset_control s
  exact ⟨s.hardReset, step_reset he, hseq, hbusy, hdone, herr, hcal, hT, hP, htr⟩

/-- Settles O12: the transcript after reset is empty, and `S_IDLE` awaits no read-back. -/
theorem busInvariantsAtReset : Obligations.BusInvariantsAtReset :=
  ⟨List.forall_mem_nil _, .of_not_awaiting rfl trivial⟩

end Sys2Proof.Machine
